-- ==== Sys2Proof/Word.lean ====
section
/-! DEFINITION. The two word types of the machine (spec/00_scope.md R10, R11: a byte is 8 bits, a word is 16 bits). -/

namespace Sys2Proof

/-- A byte: the data width of the CPU and of every bus access (R10, R103). -/
abbrev Byte := BitVec 8

/-- A word: the CPU address width (R10). -/
abbrev Word := BitVec 16

end Sys2Proof
end

