-- ==== Sys2Proof/Machine/Bits.lean ====
section
/-! DEFINITION. The bit-field, byte-order and sign-extension helpers of spec/00_scope.md R11 and spec/20_memory.md R101. -/

namespace Sys2Proof.Machine

/-- `lo(w)` = `w[7:0]` (R11). -/
def lo (w : Word) : Byte := w.setWidth 8

/-- `hi(w)` = `w[15:8]` (R11). -/
def hi (w : Word) : Byte := (w >>> 8).setWidth 8

/-- `{h, l}`, the word `h * 256 + l` (R11; little-endian order of the two bytes: R101). -/
def word (h l : Byte) : Word := (h.setWidth 16 <<< 8) ||| l.setWidth 16

/-- `zext_16(b)` (R11). -/
def zext (b : Byte) : Word := b.setWidth 16

/-- `sext_16(b)` (R11). -/
def sext (b : Byte) : Word := b.signExtend 16

/-- `b[i]` of a byte (R11). -/
def bit (b : Byte) (i : Nat) : Bool := b.getLsbD i

/-- A flag as the number 0 or 1 (R11: `v[i]` is 0 or 1). -/
def bitNat (x : Bool) : Nat := if x then 1 else 0

/-- A flag as a byte 0 or 1. -/
def bitByte (x : Bool) : Byte := if x then 1#8 else 0#8

end Sys2Proof.Machine
end

