-- ==== Sys2Proof/Syntax.lean ====
section
/-! DEFINITION. The instructions: one constructor for each of the 256 rows of spec/opcode_table.json (30_encoding.md R145), first
the two-byte, then the three-byte, then the one-byte rows, each group in the table's order. A constructor is named mnemonic, then addressing mode, then the opcode byte where several rows share both. A
two-byte instruction carries its operand byte `d`, a three-byte instruction its operand word `w` = `{hi, lo}` (R141, R143). -/

namespace Sys2Proof

/-- One constructor per opcode byte (R145). -/
inductive Instr where
  | oraIndirectX (d : Byte)
  | sloIndirectX (d : Byte)
  | nopZeropage04 (d : Byte)
  | oraZeropage (d : Byte)
  | aslZeropage (d : Byte)
  | sloZeropage (d : Byte)
  | oraImmediate (d : Byte)
  | ancImmediate0B (d : Byte)
  | bpl (d : Byte)
  | oraIndirectY (d : Byte)
  | sloIndirectY (d : Byte)
  | nopZeropageX14 (d : Byte)
  | oraZeropageX (d : Byte)
  | aslZeropageX (d : Byte)
  | sloZeropageX (d : Byte)
  | andIndirectX (d : Byte)
  | rlaIndirectX (d : Byte)
  | bitZeropage (d : Byte)
  | andZeropage (d : Byte)
  | rolZeropage (d : Byte)
  | rlaZeropage (d : Byte)
  | andImmediate (d : Byte)
  | ancImmediate2B (d : Byte)
  | bmi (d : Byte)
  | andIndirectY (d : Byte)
  | rlaIndirectY (d : Byte)
  | nopZeropageX34 (d : Byte)
  | andZeropageX (d : Byte)
  | rolZeropageX (d : Byte)
  | rlaZeropageX (d : Byte)
  | eorIndirectX (d : Byte)
  | sreIndirectX (d : Byte)
  | nopZeropage44 (d : Byte)
  | eorZeropage (d : Byte)
  | lsrZeropage (d : Byte)
  | sreZeropage (d : Byte)
  | eorImmediate (d : Byte)
  | alrImmediate (d : Byte)
  | bvc (d : Byte)
  | eorIndirectY (d : Byte)
  | sreIndirectY (d : Byte)
  | nopZeropageX54 (d : Byte)
  | eorZeropageX (d : Byte)
  | lsrZeropageX (d : Byte)
  | sreZeropageX (d : Byte)
  | adcIndirectX (d : Byte)
  | rraIndirectX (d : Byte)
  | nopZeropage64 (d : Byte)
  | adcZeropage (d : Byte)
  | rorZeropage (d : Byte)
  | rraZeropage (d : Byte)
  | adcImmediate (d : Byte)
  | arrImmediate (d : Byte)
  | bvs (d : Byte)
  | adcIndirectY (d : Byte)
  | rraIndirectY (d : Byte)
  | nopZeropageX74 (d : Byte)
  | adcZeropageX (d : Byte)
  | rorZeropageX (d : Byte)
  | rraZeropageX (d : Byte)
  | nopImmediate80 (d : Byte)
  | staIndirectX (d : Byte)
  | nopImmediate82 (d : Byte)
  | saxIndirectX (d : Byte)
  | styZeropage (d : Byte)
  | staZeropage (d : Byte)
  | stxZeropage (d : Byte)
  | saxZeropage (d : Byte)
  | nopImmediate89 (d : Byte)
  | aneImmediate (d : Byte)
  | bcc (d : Byte)
  | staIndirectY (d : Byte)
  | shaIndirectY (d : Byte)
  | styZeropageX (d : Byte)
  | staZeropageX (d : Byte)
  | stxZeropageY (d : Byte)
  | saxZeropageY (d : Byte)
  | ldyImmediate (d : Byte)
  | ldaIndirectX (d : Byte)
  | ldxImmediate (d : Byte)
  | laxIndirectX (d : Byte)
  | ldyZeropage (d : Byte)
  | ldaZeropage (d : Byte)
  | ldxZeropage (d : Byte)
  | laxZeropage (d : Byte)
  | ldaImmediate (d : Byte)
  | lxaImmediate (d : Byte)
  | bcs (d : Byte)
  | ldaIndirectY (d : Byte)
  | laxIndirectY (d : Byte)
  | ldyZeropageX (d : Byte)
  | ldaZeropageX (d : Byte)
  | ldxZeropageY (d : Byte)
  | laxZeropageY (d : Byte)
  | cpyImmediate (d : Byte)
  | cmpIndirectX (d : Byte)
  | nopImmediateC2 (d : Byte)
  | dcpIndirectX (d : Byte)
  | cpyZeropage (d : Byte)
  | cmpZeropage (d : Byte)
  | decZeropage (d : Byte)
  | dcpZeropage (d : Byte)
  | cmpImmediate (d : Byte)
  | sbxImmediate (d : Byte)
  | bne (d : Byte)
  | cmpIndirectY (d : Byte)
  | dcpIndirectY (d : Byte)
  | nopZeropageXD4 (d : Byte)
  | cmpZeropageX (d : Byte)
  | decZeropageX (d : Byte)
  | dcpZeropageX (d : Byte)
  | cpxImmediate (d : Byte)
  | sbcIndirectX (d : Byte)
  | nopImmediateE2 (d : Byte)
  | isbIndirectX (d : Byte)
  | cpxZeropage (d : Byte)
  | sbcZeropage (d : Byte)
  | incZeropage (d : Byte)
  | isbZeropage (d : Byte)
  | sbcImmediate (d : Byte)
  | sbcImmediateEB (d : Byte)
  | beq (d : Byte)
  | sbcIndirectY (d : Byte)
  | isbIndirectY (d : Byte)
  | nopZeropageXF4 (d : Byte)
  | sbcZeropageX (d : Byte)
  | incZeropageX (d : Byte)
  | isbZeropageX (d : Byte)
  | nopAbsolute (w : Word)
  | oraAbsolute (w : Word)
  | aslAbsolute (w : Word)
  | sloAbsolute (w : Word)
  | oraAbsoluteY (w : Word)
  | sloAbsoluteY (w : Word)
  | nopAbsoluteX1C (w : Word)
  | oraAbsoluteX (w : Word)
  | aslAbsoluteX (w : Word)
  | sloAbsoluteX (w : Word)
  | jsr (w : Word)
  | bitAbsolute (w : Word)
  | andAbsolute (w : Word)
  | rolAbsolute (w : Word)
  | rlaAbsolute (w : Word)
  | andAbsoluteY (w : Word)
  | rlaAbsoluteY (w : Word)
  | nopAbsoluteX3C (w : Word)
  | andAbsoluteX (w : Word)
  | rolAbsoluteX (w : Word)
  | rlaAbsoluteX (w : Word)
  | jmpAbsolute (w : Word)
  | eorAbsolute (w : Word)
  | lsrAbsolute (w : Word)
  | sreAbsolute (w : Word)
  | eorAbsoluteY (w : Word)
  | sreAbsoluteY (w : Word)
  | nopAbsoluteX5C (w : Word)
  | eorAbsoluteX (w : Word)
  | lsrAbsoluteX (w : Word)
  | sreAbsoluteX (w : Word)
  | jmpIndirect (w : Word)
  | adcAbsolute (w : Word)
  | rorAbsolute (w : Word)
  | rraAbsolute (w : Word)
  | adcAbsoluteY (w : Word)
  | rraAbsoluteY (w : Word)
  | nopAbsoluteX7C (w : Word)
  | adcAbsoluteX (w : Word)
  | rorAbsoluteX (w : Word)
  | rraAbsoluteX (w : Word)
  | styAbsolute (w : Word)
  | staAbsolute (w : Word)
  | stxAbsolute (w : Word)
  | saxAbsolute (w : Word)
  | staAbsoluteY (w : Word)
  | tasAbsoluteY (w : Word)
  | shyAbsoluteX (w : Word)
  | staAbsoluteX (w : Word)
  | shxAbsoluteY (w : Word)
  | shaAbsoluteY (w : Word)
  | ldyAbsolute (w : Word)
  | ldaAbsolute (w : Word)
  | ldxAbsolute (w : Word)
  | laxAbsolute (w : Word)
  | ldaAbsoluteY (w : Word)
  | lasAbsoluteY (w : Word)
  | ldyAbsoluteX (w : Word)
  | ldaAbsoluteX (w : Word)
  | ldxAbsoluteY (w : Word)
  | laxAbsoluteY (w : Word)
  | cpyAbsolute (w : Word)
  | cmpAbsolute (w : Word)
  | decAbsolute (w : Word)
  | dcpAbsolute (w : Word)
  | cmpAbsoluteY (w : Word)
  | dcpAbsoluteY (w : Word)
  | nopAbsoluteXDC (w : Word)
  | cmpAbsoluteX (w : Word)
  | decAbsoluteX (w : Word)
  | dcpAbsoluteX (w : Word)
  | cpxAbsolute (w : Word)
  | sbcAbsolute (w : Word)
  | incAbsolute (w : Word)
  | isbAbsolute (w : Word)
  | sbcAbsoluteY (w : Word)
  | isbAbsoluteY (w : Word)
  | nopAbsoluteXFC (w : Word)
  | sbcAbsoluteX (w : Word)
  | incAbsoluteX (w : Word)
  | isbAbsoluteX (w : Word)
  | brk
  | jam02
  | php
  | aslAccumulator
  | jam12
  | clc
  | nop1A
  | jam22
  | plp
  | rolAccumulator
  | jam32
  | sec
  | nop3A
  | rti
  | jam42
  | pha
  | lsrAccumulator
  | jam52
  | cli
  | nop5A
  | rts
  | jam62
  | pla
  | rorAccumulator
  | jam72
  | sei
  | nop7A
  | dey
  | txa
  | jam92
  | tya
  | txs
  | tay
  | tax
  | jamB2
  | clv
  | tsx
  | iny
  | dex
  | jamD2
  | cld
  | nopDA
  | inx
  | nop
  | jamF2
  | sed
  | nopFA
deriving DecidableEq, Repr

/-- The mnemonic identities of the opcode table (R145). -/
inductive Mnemonic where
  | brk | ora | jam | slo | nop | asl | php | anc | bpl | clc | jsr | and
  | rla | bit | rol | plp | bmi | sec | rti | eor | sre | lsr | pha | alr
  | jmp | bvc | cli | rts | adc | rra | ror | pla | arr | bvs | sei | sta
  | sax | sty | stx | dey | txa | ane | bcc | sha | tya | txs | tas | shy
  | shx | ldy | lda | ldx | lax | tay | tax | lxa | bcs | clv | tsx | las
  | cpy | cmp | dcp | dec | iny | dex | sbx | bne | cld | cpx | sbc | isb
  | inc | inx | beq | sed
deriving DecidableEq, Repr

/-- The thirteen addressing modes (R142). -/
inductive Mode where
  | implied | accumulator | immediate | zeropage | zeropageX | zeropageY | absolute | absoluteX | absoluteY | indirect
  | indirectX | indirectY | relative
deriving DecidableEq, Repr

/-- The *+pg* column of the opcode table (R144). -/
inductive PageCost where
  /-- 0: never an extra cycle -/
  | never
  /-- 1: one extra cycle when the indexed address crosses a page -/
  | onCross
  /-- br: the branch costs of R286 -/
  | branch
deriving DecidableEq, Repr

/-- One row of the opcode table: mnemonic identity, addressing mode, instruction length, base cycle count (none for JAM), the
*+pg*, *fd* and *off* columns (R81, R144, R145). -/
structure OpcodeRow where
  mnemonic : Mnemonic
  mode     : Mode
  length   : Nat
  base     : Option Nat
  pageCost : PageCost
  forced   : Bool
  official : Bool
deriving DecidableEq, Repr

end Sys2Proof
end

