-- ==== Sys2Proof/Decode.lean ====
section
/-! DEFINITION. The opcode table (spec/30_encoding.md R145), the decoder, total on any bytes and refusing by name, and the
encoder written from the same table. -/

namespace Sys2Proof

open Sys2Proof.Machine (hi lo word)

/-! ### The opcode table (R145) -/

/-- Rows 0x00 to 0x0F of the opcode table. -/
def opcodeRows0 : List OpcodeRow := [
  ⟨.brk, .implied, 1, some 7, .never, false, true⟩,
  ⟨.ora, .indirectX, 2, some 6, .never, false, true⟩,
  ⟨.jam, .implied, 1, none, .never, false, false⟩,
  ⟨.slo, .indirectX, 2, some 8, .never, false, false⟩,
  ⟨.nop, .zeropage, 2, some 3, .never, false, false⟩,
  ⟨.ora, .zeropage, 2, some 3, .never, false, true⟩,
  ⟨.asl, .zeropage, 2, some 5, .never, false, true⟩,
  ⟨.slo, .zeropage, 2, some 5, .never, false, false⟩,
  ⟨.php, .implied, 1, some 3, .never, false, true⟩,
  ⟨.ora, .immediate, 2, some 2, .never, false, true⟩,
  ⟨.asl, .accumulator, 1, some 2, .never, false, true⟩,
  ⟨.anc, .immediate, 2, some 2, .never, false, false⟩,
  ⟨.nop, .absolute, 3, some 4, .never, false, false⟩,
  ⟨.ora, .absolute, 3, some 4, .never, false, true⟩,
  ⟨.asl, .absolute, 3, some 6, .never, false, true⟩,
  ⟨.slo, .absolute, 3, some 6, .never, false, false⟩]

/-- Rows 0x10 to 0x1F of the opcode table. -/
def opcodeRows1 : List OpcodeRow := [
  ⟨.bpl, .relative, 2, some 2, .branch, false, true⟩,
  ⟨.ora, .indirectY, 2, some 5, .onCross, false, true⟩,
  ⟨.jam, .implied, 1, none, .never, false, false⟩,
  ⟨.slo, .indirectY, 2, some 8, .never, true, false⟩,
  ⟨.nop, .zeropageX, 2, some 4, .never, false, false⟩,
  ⟨.ora, .zeropageX, 2, some 4, .never, false, true⟩,
  ⟨.asl, .zeropageX, 2, some 6, .never, false, true⟩,
  ⟨.slo, .zeropageX, 2, some 6, .never, false, false⟩,
  ⟨.clc, .implied, 1, some 2, .never, false, true⟩,
  ⟨.ora, .absoluteY, 3, some 4, .onCross, false, true⟩,
  ⟨.nop, .implied, 1, some 2, .never, false, false⟩,
  ⟨.slo, .absoluteY, 3, some 7, .never, true, false⟩,
  ⟨.nop, .absoluteX, 3, some 4, .onCross, false, false⟩,
  ⟨.ora, .absoluteX, 3, some 4, .onCross, false, true⟩,
  ⟨.asl, .absoluteX, 3, some 7, .never, true, true⟩,
  ⟨.slo, .absoluteX, 3, some 7, .never, true, false⟩]

/-- Rows 0x20 to 0x2F of the opcode table. -/
def opcodeRows2 : List OpcodeRow := [
  ⟨.jsr, .absolute, 3, some 6, .never, false, true⟩,
  ⟨.and, .indirectX, 2, some 6, .never, false, true⟩,
  ⟨.jam, .implied, 1, none, .never, false, false⟩,
  ⟨.rla, .indirectX, 2, some 8, .never, false, false⟩,
  ⟨.bit, .zeropage, 2, some 3, .never, false, true⟩,
  ⟨.and, .zeropage, 2, some 3, .never, false, true⟩,
  ⟨.rol, .zeropage, 2, some 5, .never, false, true⟩,
  ⟨.rla, .zeropage, 2, some 5, .never, false, false⟩,
  ⟨.plp, .implied, 1, some 4, .never, false, true⟩,
  ⟨.and, .immediate, 2, some 2, .never, false, true⟩,
  ⟨.rol, .accumulator, 1, some 2, .never, false, true⟩,
  ⟨.anc, .immediate, 2, some 2, .never, false, false⟩,
  ⟨.bit, .absolute, 3, some 4, .never, false, true⟩,
  ⟨.and, .absolute, 3, some 4, .never, false, true⟩,
  ⟨.rol, .absolute, 3, some 6, .never, false, true⟩,
  ⟨.rla, .absolute, 3, some 6, .never, false, false⟩]

/-- Rows 0x30 to 0x3F of the opcode table. -/
def opcodeRows3 : List OpcodeRow := [
  ⟨.bmi, .relative, 2, some 2, .branch, false, true⟩,
  ⟨.and, .indirectY, 2, some 5, .onCross, false, true⟩,
  ⟨.jam, .implied, 1, none, .never, false, false⟩,
  ⟨.rla, .indirectY, 2, some 8, .never, true, false⟩,
  ⟨.nop, .zeropageX, 2, some 4, .never, false, false⟩,
  ⟨.and, .zeropageX, 2, some 4, .never, false, true⟩,
  ⟨.rol, .zeropageX, 2, some 6, .never, false, true⟩,
  ⟨.rla, .zeropageX, 2, some 6, .never, false, false⟩,
  ⟨.sec, .implied, 1, some 2, .never, false, true⟩,
  ⟨.and, .absoluteY, 3, some 4, .onCross, false, true⟩,
  ⟨.nop, .implied, 1, some 2, .never, false, false⟩,
  ⟨.rla, .absoluteY, 3, some 7, .never, true, false⟩,
  ⟨.nop, .absoluteX, 3, some 4, .onCross, false, false⟩,
  ⟨.and, .absoluteX, 3, some 4, .onCross, false, true⟩,
  ⟨.rol, .absoluteX, 3, some 7, .never, true, true⟩,
  ⟨.rla, .absoluteX, 3, some 7, .never, true, false⟩]

/-- Rows 0x40 to 0x4F of the opcode table. -/
def opcodeRows4 : List OpcodeRow := [
  ⟨.rti, .implied, 1, some 6, .never, false, true⟩,
  ⟨.eor, .indirectX, 2, some 6, .never, false, true⟩,
  ⟨.jam, .implied, 1, none, .never, false, false⟩,
  ⟨.sre, .indirectX, 2, some 8, .never, false, false⟩,
  ⟨.nop, .zeropage, 2, some 3, .never, false, false⟩,
  ⟨.eor, .zeropage, 2, some 3, .never, false, true⟩,
  ⟨.lsr, .zeropage, 2, some 5, .never, false, true⟩,
  ⟨.sre, .zeropage, 2, some 5, .never, false, false⟩,
  ⟨.pha, .implied, 1, some 3, .never, false, true⟩,
  ⟨.eor, .immediate, 2, some 2, .never, false, true⟩,
  ⟨.lsr, .accumulator, 1, some 2, .never, false, true⟩,
  ⟨.alr, .immediate, 2, some 2, .never, false, false⟩,
  ⟨.jmp, .absolute, 3, some 3, .never, false, true⟩,
  ⟨.eor, .absolute, 3, some 4, .never, false, true⟩,
  ⟨.lsr, .absolute, 3, some 6, .never, false, true⟩,
  ⟨.sre, .absolute, 3, some 6, .never, false, false⟩]

/-- Rows 0x50 to 0x5F of the opcode table. -/
def opcodeRows5 : List OpcodeRow := [
  ⟨.bvc, .relative, 2, some 2, .branch, false, true⟩,
  ⟨.eor, .indirectY, 2, some 5, .onCross, false, true⟩,
  ⟨.jam, .implied, 1, none, .never, false, false⟩,
  ⟨.sre, .indirectY, 2, some 8, .never, true, false⟩,
  ⟨.nop, .zeropageX, 2, some 4, .never, false, false⟩,
  ⟨.eor, .zeropageX, 2, some 4, .never, false, true⟩,
  ⟨.lsr, .zeropageX, 2, some 6, .never, false, true⟩,
  ⟨.sre, .zeropageX, 2, some 6, .never, false, false⟩,
  ⟨.cli, .implied, 1, some 2, .never, false, true⟩,
  ⟨.eor, .absoluteY, 3, some 4, .onCross, false, true⟩,
  ⟨.nop, .implied, 1, some 2, .never, false, false⟩,
  ⟨.sre, .absoluteY, 3, some 7, .never, true, false⟩,
  ⟨.nop, .absoluteX, 3, some 4, .onCross, false, false⟩,
  ⟨.eor, .absoluteX, 3, some 4, .onCross, false, true⟩,
  ⟨.lsr, .absoluteX, 3, some 7, .never, true, true⟩,
  ⟨.sre, .absoluteX, 3, some 7, .never, true, false⟩]

/-- Rows 0x60 to 0x6F of the opcode table. -/
def opcodeRows6 : List OpcodeRow := [
  ⟨.rts, .implied, 1, some 6, .never, false, true⟩,
  ⟨.adc, .indirectX, 2, some 6, .never, false, true⟩,
  ⟨.jam, .implied, 1, none, .never, false, false⟩,
  ⟨.rra, .indirectX, 2, some 8, .never, false, false⟩,
  ⟨.nop, .zeropage, 2, some 3, .never, false, false⟩,
  ⟨.adc, .zeropage, 2, some 3, .never, false, true⟩,
  ⟨.ror, .zeropage, 2, some 5, .never, false, true⟩,
  ⟨.rra, .zeropage, 2, some 5, .never, false, false⟩,
  ⟨.pla, .implied, 1, some 4, .never, false, true⟩,
  ⟨.adc, .immediate, 2, some 2, .never, false, true⟩,
  ⟨.ror, .accumulator, 1, some 2, .never, false, true⟩,
  ⟨.arr, .immediate, 2, some 2, .never, false, false⟩,
  ⟨.jmp, .indirect, 3, some 5, .never, false, true⟩,
  ⟨.adc, .absolute, 3, some 4, .never, false, true⟩,
  ⟨.ror, .absolute, 3, some 6, .never, false, true⟩,
  ⟨.rra, .absolute, 3, some 6, .never, false, false⟩]

/-- Rows 0x70 to 0x7F of the opcode table. -/
def opcodeRows7 : List OpcodeRow := [
  ⟨.bvs, .relative, 2, some 2, .branch, false, true⟩,
  ⟨.adc, .indirectY, 2, some 5, .onCross, false, true⟩,
  ⟨.jam, .implied, 1, none, .never, false, false⟩,
  ⟨.rra, .indirectY, 2, some 8, .never, true, false⟩,
  ⟨.nop, .zeropageX, 2, some 4, .never, false, false⟩,
  ⟨.adc, .zeropageX, 2, some 4, .never, false, true⟩,
  ⟨.ror, .zeropageX, 2, some 6, .never, false, true⟩,
  ⟨.rra, .zeropageX, 2, some 6, .never, false, false⟩,
  ⟨.sei, .implied, 1, some 2, .never, false, true⟩,
  ⟨.adc, .absoluteY, 3, some 4, .onCross, false, true⟩,
  ⟨.nop, .implied, 1, some 2, .never, false, false⟩,
  ⟨.rra, .absoluteY, 3, some 7, .never, true, false⟩,
  ⟨.nop, .absoluteX, 3, some 4, .onCross, false, false⟩,
  ⟨.adc, .absoluteX, 3, some 4, .onCross, false, true⟩,
  ⟨.ror, .absoluteX, 3, some 7, .never, true, true⟩,
  ⟨.rra, .absoluteX, 3, some 7, .never, true, false⟩]

/-- Rows 0x80 to 0x8F of the opcode table. -/
def opcodeRows8 : List OpcodeRow := [
  ⟨.nop, .immediate, 2, some 2, .never, false, false⟩,
  ⟨.sta, .indirectX, 2, some 6, .never, false, true⟩,
  ⟨.nop, .immediate, 2, some 2, .never, false, false⟩,
  ⟨.sax, .indirectX, 2, some 6, .never, false, false⟩,
  ⟨.sty, .zeropage, 2, some 3, .never, false, true⟩,
  ⟨.sta, .zeropage, 2, some 3, .never, false, true⟩,
  ⟨.stx, .zeropage, 2, some 3, .never, false, true⟩,
  ⟨.sax, .zeropage, 2, some 3, .never, false, false⟩,
  ⟨.dey, .implied, 1, some 2, .never, false, true⟩,
  ⟨.nop, .immediate, 2, some 2, .never, false, false⟩,
  ⟨.txa, .implied, 1, some 2, .never, false, true⟩,
  ⟨.ane, .immediate, 2, some 2, .never, false, false⟩,
  ⟨.sty, .absolute, 3, some 4, .never, false, true⟩,
  ⟨.sta, .absolute, 3, some 4, .never, false, true⟩,
  ⟨.stx, .absolute, 3, some 4, .never, false, true⟩,
  ⟨.sax, .absolute, 3, some 4, .never, false, false⟩]

/-- Rows 0x90 to 0x9F of the opcode table. -/
def opcodeRows9 : List OpcodeRow := [
  ⟨.bcc, .relative, 2, some 2, .branch, false, true⟩,
  ⟨.sta, .indirectY, 2, some 6, .never, true, true⟩,
  ⟨.jam, .implied, 1, none, .never, false, false⟩,
  ⟨.sha, .indirectY, 2, some 6, .never, true, false⟩,
  ⟨.sty, .zeropageX, 2, some 4, .never, false, true⟩,
  ⟨.sta, .zeropageX, 2, some 4, .never, false, true⟩,
  ⟨.stx, .zeropageY, 2, some 4, .never, false, true⟩,
  ⟨.sax, .zeropageY, 2, some 4, .never, false, false⟩,
  ⟨.tya, .implied, 1, some 2, .never, false, true⟩,
  ⟨.sta, .absoluteY, 3, some 5, .never, true, true⟩,
  ⟨.txs, .implied, 1, some 2, .never, false, true⟩,
  ⟨.tas, .absoluteY, 3, some 5, .never, true, false⟩,
  ⟨.shy, .absoluteX, 3, some 5, .never, true, false⟩,
  ⟨.sta, .absoluteX, 3, some 5, .never, true, true⟩,
  ⟨.shx, .absoluteY, 3, some 5, .never, true, false⟩,
  ⟨.sha, .absoluteY, 3, some 5, .never, true, false⟩]

/-- Rows 0xA0 to 0xAF of the opcode table. -/
def opcodeRowsA : List OpcodeRow := [
  ⟨.ldy, .immediate, 2, some 2, .never, false, true⟩,
  ⟨.lda, .indirectX, 2, some 6, .never, false, true⟩,
  ⟨.ldx, .immediate, 2, some 2, .never, false, true⟩,
  ⟨.lax, .indirectX, 2, some 6, .never, false, false⟩,
  ⟨.ldy, .zeropage, 2, some 3, .never, false, true⟩,
  ⟨.lda, .zeropage, 2, some 3, .never, false, true⟩,
  ⟨.ldx, .zeropage, 2, some 3, .never, false, true⟩,
  ⟨.lax, .zeropage, 2, some 3, .never, false, false⟩,
  ⟨.tay, .implied, 1, some 2, .never, false, true⟩,
  ⟨.lda, .immediate, 2, some 2, .never, false, true⟩,
  ⟨.tax, .implied, 1, some 2, .never, false, true⟩,
  ⟨.lxa, .immediate, 2, some 2, .never, false, false⟩,
  ⟨.ldy, .absolute, 3, some 4, .never, false, true⟩,
  ⟨.lda, .absolute, 3, some 4, .never, false, true⟩,
  ⟨.ldx, .absolute, 3, some 4, .never, false, true⟩,
  ⟨.lax, .absolute, 3, some 4, .never, false, false⟩]

/-- Rows 0xB0 to 0xBF of the opcode table. -/
def opcodeRowsB : List OpcodeRow := [
  ⟨.bcs, .relative, 2, some 2, .branch, false, true⟩,
  ⟨.lda, .indirectY, 2, some 5, .onCross, false, true⟩,
  ⟨.jam, .implied, 1, none, .never, false, false⟩,
  ⟨.lax, .indirectY, 2, some 5, .onCross, false, false⟩,
  ⟨.ldy, .zeropageX, 2, some 4, .never, false, true⟩,
  ⟨.lda, .zeropageX, 2, some 4, .never, false, true⟩,
  ⟨.ldx, .zeropageY, 2, some 4, .never, false, true⟩,
  ⟨.lax, .zeropageY, 2, some 4, .never, false, false⟩,
  ⟨.clv, .implied, 1, some 2, .never, false, true⟩,
  ⟨.lda, .absoluteY, 3, some 4, .onCross, false, true⟩,
  ⟨.tsx, .implied, 1, some 2, .never, false, true⟩,
  ⟨.las, .absoluteY, 3, some 4, .onCross, false, false⟩,
  ⟨.ldy, .absoluteX, 3, some 4, .onCross, false, true⟩,
  ⟨.lda, .absoluteX, 3, some 4, .onCross, false, true⟩,
  ⟨.ldx, .absoluteY, 3, some 4, .onCross, false, true⟩,
  ⟨.lax, .absoluteY, 3, some 4, .onCross, false, false⟩]

/-- Rows 0xC0 to 0xCF of the opcode table. -/
def opcodeRowsC : List OpcodeRow := [
  ⟨.cpy, .immediate, 2, some 2, .never, false, true⟩,
  ⟨.cmp, .indirectX, 2, some 6, .never, false, true⟩,
  ⟨.nop, .immediate, 2, some 2, .never, false, false⟩,
  ⟨.dcp, .indirectX, 2, some 8, .never, false, false⟩,
  ⟨.cpy, .zeropage, 2, some 3, .never, false, true⟩,
  ⟨.cmp, .zeropage, 2, some 3, .never, false, true⟩,
  ⟨.dec, .zeropage, 2, some 5, .never, false, true⟩,
  ⟨.dcp, .zeropage, 2, some 5, .never, false, false⟩,
  ⟨.iny, .implied, 1, some 2, .never, false, true⟩,
  ⟨.cmp, .immediate, 2, some 2, .never, false, true⟩,
  ⟨.dex, .implied, 1, some 2, .never, false, true⟩,
  ⟨.sbx, .immediate, 2, some 2, .never, false, false⟩,
  ⟨.cpy, .absolute, 3, some 4, .never, false, true⟩,
  ⟨.cmp, .absolute, 3, some 4, .never, false, true⟩,
  ⟨.dec, .absolute, 3, some 6, .never, false, true⟩,
  ⟨.dcp, .absolute, 3, some 6, .never, false, false⟩]

/-- Rows 0xD0 to 0xDF of the opcode table. -/
def opcodeRowsD : List OpcodeRow := [
  ⟨.bne, .relative, 2, some 2, .branch, false, true⟩,
  ⟨.cmp, .indirectY, 2, some 5, .onCross, false, true⟩,
  ⟨.jam, .implied, 1, none, .never, false, false⟩,
  ⟨.dcp, .indirectY, 2, some 8, .never, true, false⟩,
  ⟨.nop, .zeropageX, 2, some 4, .never, false, false⟩,
  ⟨.cmp, .zeropageX, 2, some 4, .never, false, true⟩,
  ⟨.dec, .zeropageX, 2, some 6, .never, false, true⟩,
  ⟨.dcp, .zeropageX, 2, some 6, .never, false, false⟩,
  ⟨.cld, .implied, 1, some 2, .never, false, true⟩,
  ⟨.cmp, .absoluteY, 3, some 4, .onCross, false, true⟩,
  ⟨.nop, .implied, 1, some 2, .never, false, false⟩,
  ⟨.dcp, .absoluteY, 3, some 7, .never, true, false⟩,
  ⟨.nop, .absoluteX, 3, some 4, .onCross, false, false⟩,
  ⟨.cmp, .absoluteX, 3, some 4, .onCross, false, true⟩,
  ⟨.dec, .absoluteX, 3, some 7, .never, true, true⟩,
  ⟨.dcp, .absoluteX, 3, some 7, .never, true, false⟩]

/-- Rows 0xE0 to 0xEF of the opcode table. -/
def opcodeRowsE : List OpcodeRow := [
  ⟨.cpx, .immediate, 2, some 2, .never, false, true⟩,
  ⟨.sbc, .indirectX, 2, some 6, .never, false, true⟩,
  ⟨.nop, .immediate, 2, some 2, .never, false, false⟩,
  ⟨.isb, .indirectX, 2, some 8, .never, false, false⟩,
  ⟨.cpx, .zeropage, 2, some 3, .never, false, true⟩,
  ⟨.sbc, .zeropage, 2, some 3, .never, false, true⟩,
  ⟨.inc, .zeropage, 2, some 5, .never, false, true⟩,
  ⟨.isb, .zeropage, 2, some 5, .never, false, false⟩,
  ⟨.inx, .implied, 1, some 2, .never, false, true⟩,
  ⟨.sbc, .immediate, 2, some 2, .never, false, true⟩,
  ⟨.nop, .implied, 1, some 2, .never, false, true⟩,
  ⟨.sbc, .immediate, 2, some 2, .never, false, false⟩,
  ⟨.cpx, .absolute, 3, some 4, .never, false, true⟩,
  ⟨.sbc, .absolute, 3, some 4, .never, false, true⟩,
  ⟨.inc, .absolute, 3, some 6, .never, false, true⟩,
  ⟨.isb, .absolute, 3, some 6, .never, false, false⟩]

/-- Rows 0xF0 to 0xFF of the opcode table. -/
def opcodeRowsF : List OpcodeRow := [
  ⟨.beq, .relative, 2, some 2, .branch, false, true⟩,
  ⟨.sbc, .indirectY, 2, some 5, .onCross, false, true⟩,
  ⟨.jam, .implied, 1, none, .never, false, false⟩,
  ⟨.isb, .indirectY, 2, some 8, .never, true, false⟩,
  ⟨.nop, .zeropageX, 2, some 4, .never, false, false⟩,
  ⟨.sbc, .zeropageX, 2, some 4, .never, false, true⟩,
  ⟨.inc, .zeropageX, 2, some 6, .never, false, true⟩,
  ⟨.isb, .zeropageX, 2, some 6, .never, false, false⟩,
  ⟨.sed, .implied, 1, some 2, .never, false, true⟩,
  ⟨.sbc, .absoluteY, 3, some 4, .onCross, false, true⟩,
  ⟨.nop, .implied, 1, some 2, .never, false, false⟩,
  ⟨.isb, .absoluteY, 3, some 7, .never, true, false⟩,
  ⟨.nop, .absoluteX, 3, some 4, .onCross, false, false⟩,
  ⟨.sbc, .absoluteX, 3, some 4, .onCross, false, true⟩,
  ⟨.inc, .absoluteX, 3, some 7, .never, true, true⟩,
  ⟨.isb, .absoluteX, 3, some 7, .never, true, false⟩]

/-- The 256 rows, sixteen for each high nibble of the opcode byte (R145). -/
def opcodeTable : List (List OpcodeRow) :=
  [opcodeRows0, opcodeRows1, opcodeRows2, opcodeRows3, opcodeRows4, opcodeRows5, opcodeRows6, opcodeRows7,
   opcodeRows8, opcodeRows9, opcodeRowsA, opcodeRowsB, opcodeRowsC, opcodeRowsD, opcodeRowsE, opcodeRowsF]

/-- A row nothing selects: each of the sixteen lists has sixteen rows. -/
def noRow : OpcodeRow := ⟨.jam, .implied, 1, none, .never, false, false⟩

/-- `OpcodeTable[op]` (R172): decode is by the full byte (R141). -/
def opcodeRow (op : Byte) : OpcodeRow := (opcodeTable.getD (op.toNat / 16) []).getD (op.toNat % 16) noRow

/-- How many operand bytes follow the opcode byte: a decoder knows the length from the first byte (R140). -/
def operandCount (op : Byte) : Nat := (opcodeRow op).length - 1

/-! ### Decoding -/

/-- The instructions of opcodes 0x00 to 0x0F, from the two bytes after the opcode byte. -/
def decoders0 : List (Byte → Byte → Instr) := [
  fun _ _ => .brk,
  fun d _ => .oraIndirectX d,
  fun _ _ => .jam02,
  fun d _ => .sloIndirectX d,
  fun d _ => .nopZeropage04 d,
  fun d _ => .oraZeropage d,
  fun d _ => .aslZeropage d,
  fun d _ => .sloZeropage d,
  fun _ _ => .php,
  fun d _ => .oraImmediate d,
  fun _ _ => .aslAccumulator,
  fun d _ => .ancImmediate0B d,
  fun l h => .nopAbsolute (word h l),
  fun l h => .oraAbsolute (word h l),
  fun l h => .aslAbsolute (word h l),
  fun l h => .sloAbsolute (word h l)]

/-- The instructions of opcodes 0x10 to 0x1F, from the two bytes after the opcode byte. -/
def decoders1 : List (Byte → Byte → Instr) := [
  fun d _ => .bpl d,
  fun d _ => .oraIndirectY d,
  fun _ _ => .jam12,
  fun d _ => .sloIndirectY d,
  fun d _ => .nopZeropageX14 d,
  fun d _ => .oraZeropageX d,
  fun d _ => .aslZeropageX d,
  fun d _ => .sloZeropageX d,
  fun _ _ => .clc,
  fun l h => .oraAbsoluteY (word h l),
  fun _ _ => .nop1A,
  fun l h => .sloAbsoluteY (word h l),
  fun l h => .nopAbsoluteX1C (word h l),
  fun l h => .oraAbsoluteX (word h l),
  fun l h => .aslAbsoluteX (word h l),
  fun l h => .sloAbsoluteX (word h l)]

/-- The instructions of opcodes 0x20 to 0x2F, from the two bytes after the opcode byte. -/
def decoders2 : List (Byte → Byte → Instr) := [
  fun l h => .jsr (word h l),
  fun d _ => .andIndirectX d,
  fun _ _ => .jam22,
  fun d _ => .rlaIndirectX d,
  fun d _ => .bitZeropage d,
  fun d _ => .andZeropage d,
  fun d _ => .rolZeropage d,
  fun d _ => .rlaZeropage d,
  fun _ _ => .plp,
  fun d _ => .andImmediate d,
  fun _ _ => .rolAccumulator,
  fun d _ => .ancImmediate2B d,
  fun l h => .bitAbsolute (word h l),
  fun l h => .andAbsolute (word h l),
  fun l h => .rolAbsolute (word h l),
  fun l h => .rlaAbsolute (word h l)]

/-- The instructions of opcodes 0x30 to 0x3F, from the two bytes after the opcode byte. -/
def decoders3 : List (Byte → Byte → Instr) := [
  fun d _ => .bmi d,
  fun d _ => .andIndirectY d,
  fun _ _ => .jam32,
  fun d _ => .rlaIndirectY d,
  fun d _ => .nopZeropageX34 d,
  fun d _ => .andZeropageX d,
  fun d _ => .rolZeropageX d,
  fun d _ => .rlaZeropageX d,
  fun _ _ => .sec,
  fun l h => .andAbsoluteY (word h l),
  fun _ _ => .nop3A,
  fun l h => .rlaAbsoluteY (word h l),
  fun l h => .nopAbsoluteX3C (word h l),
  fun l h => .andAbsoluteX (word h l),
  fun l h => .rolAbsoluteX (word h l),
  fun l h => .rlaAbsoluteX (word h l)]

/-- The instructions of opcodes 0x40 to 0x4F, from the two bytes after the opcode byte. -/
def decoders4 : List (Byte → Byte → Instr) := [
  fun _ _ => .rti,
  fun d _ => .eorIndirectX d,
  fun _ _ => .jam42,
  fun d _ => .sreIndirectX d,
  fun d _ => .nopZeropage44 d,
  fun d _ => .eorZeropage d,
  fun d _ => .lsrZeropage d,
  fun d _ => .sreZeropage d,
  fun _ _ => .pha,
  fun d _ => .eorImmediate d,
  fun _ _ => .lsrAccumulator,
  fun d _ => .alrImmediate d,
  fun l h => .jmpAbsolute (word h l),
  fun l h => .eorAbsolute (word h l),
  fun l h => .lsrAbsolute (word h l),
  fun l h => .sreAbsolute (word h l)]

/-- The instructions of opcodes 0x50 to 0x5F, from the two bytes after the opcode byte. -/
def decoders5 : List (Byte → Byte → Instr) := [
  fun d _ => .bvc d,
  fun d _ => .eorIndirectY d,
  fun _ _ => .jam52,
  fun d _ => .sreIndirectY d,
  fun d _ => .nopZeropageX54 d,
  fun d _ => .eorZeropageX d,
  fun d _ => .lsrZeropageX d,
  fun d _ => .sreZeropageX d,
  fun _ _ => .cli,
  fun l h => .eorAbsoluteY (word h l),
  fun _ _ => .nop5A,
  fun l h => .sreAbsoluteY (word h l),
  fun l h => .nopAbsoluteX5C (word h l),
  fun l h => .eorAbsoluteX (word h l),
  fun l h => .lsrAbsoluteX (word h l),
  fun l h => .sreAbsoluteX (word h l)]

/-- The instructions of opcodes 0x60 to 0x6F, from the two bytes after the opcode byte. -/
def decoders6 : List (Byte → Byte → Instr) := [
  fun _ _ => .rts,
  fun d _ => .adcIndirectX d,
  fun _ _ => .jam62,
  fun d _ => .rraIndirectX d,
  fun d _ => .nopZeropage64 d,
  fun d _ => .adcZeropage d,
  fun d _ => .rorZeropage d,
  fun d _ => .rraZeropage d,
  fun _ _ => .pla,
  fun d _ => .adcImmediate d,
  fun _ _ => .rorAccumulator,
  fun d _ => .arrImmediate d,
  fun l h => .jmpIndirect (word h l),
  fun l h => .adcAbsolute (word h l),
  fun l h => .rorAbsolute (word h l),
  fun l h => .rraAbsolute (word h l)]

/-- The instructions of opcodes 0x70 to 0x7F, from the two bytes after the opcode byte. -/
def decoders7 : List (Byte → Byte → Instr) := [
  fun d _ => .bvs d,
  fun d _ => .adcIndirectY d,
  fun _ _ => .jam72,
  fun d _ => .rraIndirectY d,
  fun d _ => .nopZeropageX74 d,
  fun d _ => .adcZeropageX d,
  fun d _ => .rorZeropageX d,
  fun d _ => .rraZeropageX d,
  fun _ _ => .sei,
  fun l h => .adcAbsoluteY (word h l),
  fun _ _ => .nop7A,
  fun l h => .rraAbsoluteY (word h l),
  fun l h => .nopAbsoluteX7C (word h l),
  fun l h => .adcAbsoluteX (word h l),
  fun l h => .rorAbsoluteX (word h l),
  fun l h => .rraAbsoluteX (word h l)]

/-- The instructions of opcodes 0x80 to 0x8F, from the two bytes after the opcode byte. -/
def decoders8 : List (Byte → Byte → Instr) := [
  fun d _ => .nopImmediate80 d,
  fun d _ => .staIndirectX d,
  fun d _ => .nopImmediate82 d,
  fun d _ => .saxIndirectX d,
  fun d _ => .styZeropage d,
  fun d _ => .staZeropage d,
  fun d _ => .stxZeropage d,
  fun d _ => .saxZeropage d,
  fun _ _ => .dey,
  fun d _ => .nopImmediate89 d,
  fun _ _ => .txa,
  fun d _ => .aneImmediate d,
  fun l h => .styAbsolute (word h l),
  fun l h => .staAbsolute (word h l),
  fun l h => .stxAbsolute (word h l),
  fun l h => .saxAbsolute (word h l)]

/-- The instructions of opcodes 0x90 to 0x9F, from the two bytes after the opcode byte. -/
def decoders9 : List (Byte → Byte → Instr) := [
  fun d _ => .bcc d,
  fun d _ => .staIndirectY d,
  fun _ _ => .jam92,
  fun d _ => .shaIndirectY d,
  fun d _ => .styZeropageX d,
  fun d _ => .staZeropageX d,
  fun d _ => .stxZeropageY d,
  fun d _ => .saxZeropageY d,
  fun _ _ => .tya,
  fun l h => .staAbsoluteY (word h l),
  fun _ _ => .txs,
  fun l h => .tasAbsoluteY (word h l),
  fun l h => .shyAbsoluteX (word h l),
  fun l h => .staAbsoluteX (word h l),
  fun l h => .shxAbsoluteY (word h l),
  fun l h => .shaAbsoluteY (word h l)]

/-- The instructions of opcodes 0xA0 to 0xAF, from the two bytes after the opcode byte. -/
def decodersA : List (Byte → Byte → Instr) := [
  fun d _ => .ldyImmediate d,
  fun d _ => .ldaIndirectX d,
  fun d _ => .ldxImmediate d,
  fun d _ => .laxIndirectX d,
  fun d _ => .ldyZeropage d,
  fun d _ => .ldaZeropage d,
  fun d _ => .ldxZeropage d,
  fun d _ => .laxZeropage d,
  fun _ _ => .tay,
  fun d _ => .ldaImmediate d,
  fun _ _ => .tax,
  fun d _ => .lxaImmediate d,
  fun l h => .ldyAbsolute (word h l),
  fun l h => .ldaAbsolute (word h l),
  fun l h => .ldxAbsolute (word h l),
  fun l h => .laxAbsolute (word h l)]

/-- The instructions of opcodes 0xB0 to 0xBF, from the two bytes after the opcode byte. -/
def decodersB : List (Byte → Byte → Instr) := [
  fun d _ => .bcs d,
  fun d _ => .ldaIndirectY d,
  fun _ _ => .jamB2,
  fun d _ => .laxIndirectY d,
  fun d _ => .ldyZeropageX d,
  fun d _ => .ldaZeropageX d,
  fun d _ => .ldxZeropageY d,
  fun d _ => .laxZeropageY d,
  fun _ _ => .clv,
  fun l h => .ldaAbsoluteY (word h l),
  fun _ _ => .tsx,
  fun l h => .lasAbsoluteY (word h l),
  fun l h => .ldyAbsoluteX (word h l),
  fun l h => .ldaAbsoluteX (word h l),
  fun l h => .ldxAbsoluteY (word h l),
  fun l h => .laxAbsoluteY (word h l)]

/-- The instructions of opcodes 0xC0 to 0xCF, from the two bytes after the opcode byte. -/
def decodersC : List (Byte → Byte → Instr) := [
  fun d _ => .cpyImmediate d,
  fun d _ => .cmpIndirectX d,
  fun d _ => .nopImmediateC2 d,
  fun d _ => .dcpIndirectX d,
  fun d _ => .cpyZeropage d,
  fun d _ => .cmpZeropage d,
  fun d _ => .decZeropage d,
  fun d _ => .dcpZeropage d,
  fun _ _ => .iny,
  fun d _ => .cmpImmediate d,
  fun _ _ => .dex,
  fun d _ => .sbxImmediate d,
  fun l h => .cpyAbsolute (word h l),
  fun l h => .cmpAbsolute (word h l),
  fun l h => .decAbsolute (word h l),
  fun l h => .dcpAbsolute (word h l)]

/-- The instructions of opcodes 0xD0 to 0xDF, from the two bytes after the opcode byte. -/
def decodersD : List (Byte → Byte → Instr) := [
  fun d _ => .bne d,
  fun d _ => .cmpIndirectY d,
  fun _ _ => .jamD2,
  fun d _ => .dcpIndirectY d,
  fun d _ => .nopZeropageXD4 d,
  fun d _ => .cmpZeropageX d,
  fun d _ => .decZeropageX d,
  fun d _ => .dcpZeropageX d,
  fun _ _ => .cld,
  fun l h => .cmpAbsoluteY (word h l),
  fun _ _ => .nopDA,
  fun l h => .dcpAbsoluteY (word h l),
  fun l h => .nopAbsoluteXDC (word h l),
  fun l h => .cmpAbsoluteX (word h l),
  fun l h => .decAbsoluteX (word h l),
  fun l h => .dcpAbsoluteX (word h l)]

/-- The instructions of opcodes 0xE0 to 0xEF, from the two bytes after the opcode byte. -/
def decodersE : List (Byte → Byte → Instr) := [
  fun d _ => .cpxImmediate d,
  fun d _ => .sbcIndirectX d,
  fun d _ => .nopImmediateE2 d,
  fun d _ => .isbIndirectX d,
  fun d _ => .cpxZeropage d,
  fun d _ => .sbcZeropage d,
  fun d _ => .incZeropage d,
  fun d _ => .isbZeropage d,
  fun _ _ => .inx,
  fun d _ => .sbcImmediate d,
  fun _ _ => .nop,
  fun d _ => .sbcImmediateEB d,
  fun l h => .cpxAbsolute (word h l),
  fun l h => .sbcAbsolute (word h l),
  fun l h => .incAbsolute (word h l),
  fun l h => .isbAbsolute (word h l)]

/-- The instructions of opcodes 0xF0 to 0xFF, from the two bytes after the opcode byte. -/
def decodersF : List (Byte → Byte → Instr) := [
  fun d _ => .beq d,
  fun d _ => .sbcIndirectY d,
  fun _ _ => .jamF2,
  fun d _ => .isbIndirectY d,
  fun d _ => .nopZeropageXF4 d,
  fun d _ => .sbcZeropageX d,
  fun d _ => .incZeropageX d,
  fun d _ => .isbZeropageX d,
  fun _ _ => .sed,
  fun l h => .sbcAbsoluteY (word h l),
  fun _ _ => .nopFA,
  fun l h => .isbAbsoluteY (word h l),
  fun l h => .nopAbsoluteXFC (word h l),
  fun l h => .sbcAbsoluteX (word h l),
  fun l h => .incAbsoluteX (word h l),
  fun l h => .isbAbsoluteX (word h l)]

/-- The decoders of the 256 opcode bytes, sixteen for each high nibble. -/
def decoders : List (List (Byte → Byte → Instr)) :=
  [decoders0, decoders1, decoders2, decoders3, decoders4, decoders5, decoders6, decoders7,
   decoders8, decoders9, decodersA, decodersB, decodersC, decodersD, decodersE, decodersF]

/-- The instruction of an opcode byte and the two bytes after it, of which it uses as many as its length says. Total: every
opcode byte has a meaning (R147). -/
def decodeOp (op b1 b2 : Byte) : Instr := (decoders.getD (op.toNat / 16) []).getD (op.toNat % 16) (fun _ _ => .nop) b1 b2

/-- Why a byte sequence does not begin with an instruction. No byte value is an unknown opcode (R147). -/
inductive DecodeError where
  /-- there is no opcode byte -/
  | empty
  /-- fewer bytes follow than the opcode's length asks for -/
  | missingOperand (op : Byte)
deriving DecidableEq, Repr

/-- Read one instruction from the front of a byte sequence, with the bytes that are left (R140, R141). -/
def decode (bytes : List Byte) : Except DecodeError (Instr × List Byte) :=
  match bytes with
  | [] => .error .empty
  | op :: rest =>
    if rest.length < operandCount op then .error (.missingOperand op)
    else .ok (decodeOp op (rest.getD 0 0) (rest.getD 1 0), rest.drop (operandCount op))

/-- The instruction the decoder reads from `w`, laid out as the hardware stores it: one byte an address, bits 7..0 first. An
instruction has at most three bytes (R141), and the bits of `w` from `nbits` on count as 0. -/
def decodeTableWord (nbits w : Nat) : Option Instr :=
  let v := w % 2 ^ nbits
  match decode [BitVec.ofNat 8 v, BitVec.ofNat 8 (v / 256), BitVec.ofNat 8 (v / 65536)] with
  | .ok (i, _) => some i
  | .error _ => none

/-! ### Encoding -/

/-- The bytes of an instruction: the opcode byte, then the operand byte, or the operand word low byte first (R101, R141). -/
def encode (i : Instr) : List Byte :=
  match i with
  | .brk => [0x00#8]
  | .oraIndirectX d => [0x01#8, d]
  | .jam02 => [0x02#8]
  | .sloIndirectX d => [0x03#8, d]
  | .nopZeropage04 d => [0x04#8, d]
  | .oraZeropage d => [0x05#8, d]
  | .aslZeropage d => [0x06#8, d]
  | .sloZeropage d => [0x07#8, d]
  | .php => [0x08#8]
  | .oraImmediate d => [0x09#8, d]
  | .aslAccumulator => [0x0A#8]
  | .ancImmediate0B d => [0x0B#8, d]
  | .nopAbsolute w => [0x0C#8, lo w, hi w]
  | .oraAbsolute w => [0x0D#8, lo w, hi w]
  | .aslAbsolute w => [0x0E#8, lo w, hi w]
  | .sloAbsolute w => [0x0F#8, lo w, hi w]
  | .bpl d => [0x10#8, d]
  | .oraIndirectY d => [0x11#8, d]
  | .jam12 => [0x12#8]
  | .sloIndirectY d => [0x13#8, d]
  | .nopZeropageX14 d => [0x14#8, d]
  | .oraZeropageX d => [0x15#8, d]
  | .aslZeropageX d => [0x16#8, d]
  | .sloZeropageX d => [0x17#8, d]
  | .clc => [0x18#8]
  | .oraAbsoluteY w => [0x19#8, lo w, hi w]
  | .nop1A => [0x1A#8]
  | .sloAbsoluteY w => [0x1B#8, lo w, hi w]
  | .nopAbsoluteX1C w => [0x1C#8, lo w, hi w]
  | .oraAbsoluteX w => [0x1D#8, lo w, hi w]
  | .aslAbsoluteX w => [0x1E#8, lo w, hi w]
  | .sloAbsoluteX w => [0x1F#8, lo w, hi w]
  | .jsr w => [0x20#8, lo w, hi w]
  | .andIndirectX d => [0x21#8, d]
  | .jam22 => [0x22#8]
  | .rlaIndirectX d => [0x23#8, d]
  | .bitZeropage d => [0x24#8, d]
  | .andZeropage d => [0x25#8, d]
  | .rolZeropage d => [0x26#8, d]
  | .rlaZeropage d => [0x27#8, d]
  | .plp => [0x28#8]
  | .andImmediate d => [0x29#8, d]
  | .rolAccumulator => [0x2A#8]
  | .ancImmediate2B d => [0x2B#8, d]
  | .bitAbsolute w => [0x2C#8, lo w, hi w]
  | .andAbsolute w => [0x2D#8, lo w, hi w]
  | .rolAbsolute w => [0x2E#8, lo w, hi w]
  | .rlaAbsolute w => [0x2F#8, lo w, hi w]
  | .bmi d => [0x30#8, d]
  | .andIndirectY d => [0x31#8, d]
  | .jam32 => [0x32#8]
  | .rlaIndirectY d => [0x33#8, d]
  | .nopZeropageX34 d => [0x34#8, d]
  | .andZeropageX d => [0x35#8, d]
  | .rolZeropageX d => [0x36#8, d]
  | .rlaZeropageX d => [0x37#8, d]
  | .sec => [0x38#8]
  | .andAbsoluteY w => [0x39#8, lo w, hi w]
  | .nop3A => [0x3A#8]
  | .rlaAbsoluteY w => [0x3B#8, lo w, hi w]
  | .nopAbsoluteX3C w => [0x3C#8, lo w, hi w]
  | .andAbsoluteX w => [0x3D#8, lo w, hi w]
  | .rolAbsoluteX w => [0x3E#8, lo w, hi w]
  | .rlaAbsoluteX w => [0x3F#8, lo w, hi w]
  | .rti => [0x40#8]
  | .eorIndirectX d => [0x41#8, d]
  | .jam42 => [0x42#8]
  | .sreIndirectX d => [0x43#8, d]
  | .nopZeropage44 d => [0x44#8, d]
  | .eorZeropage d => [0x45#8, d]
  | .lsrZeropage d => [0x46#8, d]
  | .sreZeropage d => [0x47#8, d]
  | .pha => [0x48#8]
  | .eorImmediate d => [0x49#8, d]
  | .lsrAccumulator => [0x4A#8]
  | .alrImmediate d => [0x4B#8, d]
  | .jmpAbsolute w => [0x4C#8, lo w, hi w]
  | .eorAbsolute w => [0x4D#8, lo w, hi w]
  | .lsrAbsolute w => [0x4E#8, lo w, hi w]
  | .sreAbsolute w => [0x4F#8, lo w, hi w]
  | .bvc d => [0x50#8, d]
  | .eorIndirectY d => [0x51#8, d]
  | .jam52 => [0x52#8]
  | .sreIndirectY d => [0x53#8, d]
  | .nopZeropageX54 d => [0x54#8, d]
  | .eorZeropageX d => [0x55#8, d]
  | .lsrZeropageX d => [0x56#8, d]
  | .sreZeropageX d => [0x57#8, d]
  | .cli => [0x58#8]
  | .eorAbsoluteY w => [0x59#8, lo w, hi w]
  | .nop5A => [0x5A#8]
  | .sreAbsoluteY w => [0x5B#8, lo w, hi w]
  | .nopAbsoluteX5C w => [0x5C#8, lo w, hi w]
  | .eorAbsoluteX w => [0x5D#8, lo w, hi w]
  | .lsrAbsoluteX w => [0x5E#8, lo w, hi w]
  | .sreAbsoluteX w => [0x5F#8, lo w, hi w]
  | .rts => [0x60#8]
  | .adcIndirectX d => [0x61#8, d]
  | .jam62 => [0x62#8]
  | .rraIndirectX d => [0x63#8, d]
  | .nopZeropage64 d => [0x64#8, d]
  | .adcZeropage d => [0x65#8, d]
  | .rorZeropage d => [0x66#8, d]
  | .rraZeropage d => [0x67#8, d]
  | .pla => [0x68#8]
  | .adcImmediate d => [0x69#8, d]
  | .rorAccumulator => [0x6A#8]
  | .arrImmediate d => [0x6B#8, d]
  | .jmpIndirect w => [0x6C#8, lo w, hi w]
  | .adcAbsolute w => [0x6D#8, lo w, hi w]
  | .rorAbsolute w => [0x6E#8, lo w, hi w]
  | .rraAbsolute w => [0x6F#8, lo w, hi w]
  | .bvs d => [0x70#8, d]
  | .adcIndirectY d => [0x71#8, d]
  | .jam72 => [0x72#8]
  | .rraIndirectY d => [0x73#8, d]
  | .nopZeropageX74 d => [0x74#8, d]
  | .adcZeropageX d => [0x75#8, d]
  | .rorZeropageX d => [0x76#8, d]
  | .rraZeropageX d => [0x77#8, d]
  | .sei => [0x78#8]
  | .adcAbsoluteY w => [0x79#8, lo w, hi w]
  | .nop7A => [0x7A#8]
  | .rraAbsoluteY w => [0x7B#8, lo w, hi w]
  | .nopAbsoluteX7C w => [0x7C#8, lo w, hi w]
  | .adcAbsoluteX w => [0x7D#8, lo w, hi w]
  | .rorAbsoluteX w => [0x7E#8, lo w, hi w]
  | .rraAbsoluteX w => [0x7F#8, lo w, hi w]
  | .nopImmediate80 d => [0x80#8, d]
  | .staIndirectX d => [0x81#8, d]
  | .nopImmediate82 d => [0x82#8, d]
  | .saxIndirectX d => [0x83#8, d]
  | .styZeropage d => [0x84#8, d]
  | .staZeropage d => [0x85#8, d]
  | .stxZeropage d => [0x86#8, d]
  | .saxZeropage d => [0x87#8, d]
  | .dey => [0x88#8]
  | .nopImmediate89 d => [0x89#8, d]
  | .txa => [0x8A#8]
  | .aneImmediate d => [0x8B#8, d]
  | .styAbsolute w => [0x8C#8, lo w, hi w]
  | .staAbsolute w => [0x8D#8, lo w, hi w]
  | .stxAbsolute w => [0x8E#8, lo w, hi w]
  | .saxAbsolute w => [0x8F#8, lo w, hi w]
  | .bcc d => [0x90#8, d]
  | .staIndirectY d => [0x91#8, d]
  | .jam92 => [0x92#8]
  | .shaIndirectY d => [0x93#8, d]
  | .styZeropageX d => [0x94#8, d]
  | .staZeropageX d => [0x95#8, d]
  | .stxZeropageY d => [0x96#8, d]
  | .saxZeropageY d => [0x97#8, d]
  | .tya => [0x98#8]
  | .staAbsoluteY w => [0x99#8, lo w, hi w]
  | .txs => [0x9A#8]
  | .tasAbsoluteY w => [0x9B#8, lo w, hi w]
  | .shyAbsoluteX w => [0x9C#8, lo w, hi w]
  | .staAbsoluteX w => [0x9D#8, lo w, hi w]
  | .shxAbsoluteY w => [0x9E#8, lo w, hi w]
  | .shaAbsoluteY w => [0x9F#8, lo w, hi w]
  | .ldyImmediate d => [0xA0#8, d]
  | .ldaIndirectX d => [0xA1#8, d]
  | .ldxImmediate d => [0xA2#8, d]
  | .laxIndirectX d => [0xA3#8, d]
  | .ldyZeropage d => [0xA4#8, d]
  | .ldaZeropage d => [0xA5#8, d]
  | .ldxZeropage d => [0xA6#8, d]
  | .laxZeropage d => [0xA7#8, d]
  | .tay => [0xA8#8]
  | .ldaImmediate d => [0xA9#8, d]
  | .tax => [0xAA#8]
  | .lxaImmediate d => [0xAB#8, d]
  | .ldyAbsolute w => [0xAC#8, lo w, hi w]
  | .ldaAbsolute w => [0xAD#8, lo w, hi w]
  | .ldxAbsolute w => [0xAE#8, lo w, hi w]
  | .laxAbsolute w => [0xAF#8, lo w, hi w]
  | .bcs d => [0xB0#8, d]
  | .ldaIndirectY d => [0xB1#8, d]
  | .jamB2 => [0xB2#8]
  | .laxIndirectY d => [0xB3#8, d]
  | .ldyZeropageX d => [0xB4#8, d]
  | .ldaZeropageX d => [0xB5#8, d]
  | .ldxZeropageY d => [0xB6#8, d]
  | .laxZeropageY d => [0xB7#8, d]
  | .clv => [0xB8#8]
  | .ldaAbsoluteY w => [0xB9#8, lo w, hi w]
  | .tsx => [0xBA#8]
  | .lasAbsoluteY w => [0xBB#8, lo w, hi w]
  | .ldyAbsoluteX w => [0xBC#8, lo w, hi w]
  | .ldaAbsoluteX w => [0xBD#8, lo w, hi w]
  | .ldxAbsoluteY w => [0xBE#8, lo w, hi w]
  | .laxAbsoluteY w => [0xBF#8, lo w, hi w]
  | .cpyImmediate d => [0xC0#8, d]
  | .cmpIndirectX d => [0xC1#8, d]
  | .nopImmediateC2 d => [0xC2#8, d]
  | .dcpIndirectX d => [0xC3#8, d]
  | .cpyZeropage d => [0xC4#8, d]
  | .cmpZeropage d => [0xC5#8, d]
  | .decZeropage d => [0xC6#8, d]
  | .dcpZeropage d => [0xC7#8, d]
  | .iny => [0xC8#8]
  | .cmpImmediate d => [0xC9#8, d]
  | .dex => [0xCA#8]
  | .sbxImmediate d => [0xCB#8, d]
  | .cpyAbsolute w => [0xCC#8, lo w, hi w]
  | .cmpAbsolute w => [0xCD#8, lo w, hi w]
  | .decAbsolute w => [0xCE#8, lo w, hi w]
  | .dcpAbsolute w => [0xCF#8, lo w, hi w]
  | .bne d => [0xD0#8, d]
  | .cmpIndirectY d => [0xD1#8, d]
  | .jamD2 => [0xD2#8]
  | .dcpIndirectY d => [0xD3#8, d]
  | .nopZeropageXD4 d => [0xD4#8, d]
  | .cmpZeropageX d => [0xD5#8, d]
  | .decZeropageX d => [0xD6#8, d]
  | .dcpZeropageX d => [0xD7#8, d]
  | .cld => [0xD8#8]
  | .cmpAbsoluteY w => [0xD9#8, lo w, hi w]
  | .nopDA => [0xDA#8]
  | .dcpAbsoluteY w => [0xDB#8, lo w, hi w]
  | .nopAbsoluteXDC w => [0xDC#8, lo w, hi w]
  | .cmpAbsoluteX w => [0xDD#8, lo w, hi w]
  | .decAbsoluteX w => [0xDE#8, lo w, hi w]
  | .dcpAbsoluteX w => [0xDF#8, lo w, hi w]
  | .cpxImmediate d => [0xE0#8, d]
  | .sbcIndirectX d => [0xE1#8, d]
  | .nopImmediateE2 d => [0xE2#8, d]
  | .isbIndirectX d => [0xE3#8, d]
  | .cpxZeropage d => [0xE4#8, d]
  | .sbcZeropage d => [0xE5#8, d]
  | .incZeropage d => [0xE6#8, d]
  | .isbZeropage d => [0xE7#8, d]
  | .inx => [0xE8#8]
  | .sbcImmediate d => [0xE9#8, d]
  | .nop => [0xEA#8]
  | .sbcImmediateEB d => [0xEB#8, d]
  | .cpxAbsolute w => [0xEC#8, lo w, hi w]
  | .sbcAbsolute w => [0xED#8, lo w, hi w]
  | .incAbsolute w => [0xEE#8, lo w, hi w]
  | .isbAbsolute w => [0xEF#8, lo w, hi w]
  | .beq d => [0xF0#8, d]
  | .sbcIndirectY d => [0xF1#8, d]
  | .jamF2 => [0xF2#8]
  | .isbIndirectY d => [0xF3#8, d]
  | .nopZeropageXF4 d => [0xF4#8, d]
  | .sbcZeropageX d => [0xF5#8, d]
  | .incZeropageX d => [0xF6#8, d]
  | .isbZeropageX d => [0xF7#8, d]
  | .sed => [0xF8#8]
  | .sbcAbsoluteY w => [0xF9#8, lo w, hi w]
  | .nopFA => [0xFA#8]
  | .isbAbsoluteY w => [0xFB#8, lo w, hi w]
  | .nopAbsoluteXFC w => [0xFC#8, lo w, hi w]
  | .sbcAbsoluteX w => [0xFD#8, lo w, hi w]
  | .incAbsoluteX w => [0xFE#8, lo w, hi w]
  | .isbAbsoluteX w => [0xFF#8, lo w, hi w]

/-- The opcode byte of an instruction. -/
def Instr.opcode (i : Instr) : Byte := (encode i).headD 0

/-- The opcode-table row of an instruction. -/
def Instr.row (i : Instr) : OpcodeRow := opcodeRow i.opcode

end Sys2Proof
end

