-- ==== Sys2Proof/Config.lean ====
section
/-! DEFINITION. What is fixed for the machine: the numbers spec/00_scope.md R10 fixes or decides, and the open values that
nothing may compute (opaque constants without a body: a proof holds whatever they are). The open parameters that a run must be
able to evaluate are not here: RESET_I and RESET_CYCLES are arguments of `hostReset`, OPEN_BUS_DECAY_CYCLES is a field of State
(notes/assumptions/4.md, notes/assumptions/5.md). -/

namespace Sys2Proof.Config

/-! ### Fixed or decided numbers (R10) -/

/-- `CPU_PPU_RATIO`, PPU cycles for one CPU cycle. -/
def cpuPpuRatio : Nat := 3
/-- `PPU_CYCLES_PER_LINE`. -/
def ppuCyclesPerLine : Nat := 341
/-- `PPU_LINES_PER_FRAME`. -/
def ppuLinesPerFrame : Nat := 262
/-- `FRAME_W`. -/
def frameWidth : Nat := 256
/-- `FRAME_H`. -/
def frameHeight : Nat := 240
/-- `NMI_DELAY_INIT`, in CPU cycles (D1). -/
def nmiDelayInit : Nat := 14
/-- `INTERRUPT_CYCLES` (D11). -/
def interruptCycles : Nat := 7
/-- `DMA_STALL_BASE`. -/
def dmaStallBase : Nat := 513
/-- `MAPPER_IRQ_CYCLE`. -/
def mapperIrqCycle : Nat := 280
/-- `SP_RESET`. -/
def spReset : Byte := 0xFD#8
/-- The NMI vector (R108, R551). -/
def nmiVector : Word := 0xFFFA#16
/-- The reset vector (R108, R551). -/
def resetVector : Word := 0xFFFC#16
/-- The vector BRK and IRQ share (R108, R551). -/
def irqVector : Word := 0xFFFE#16
/-- RAM size in bytes. -/
def ramSize : Nat := 2048
/-- OAM size in bytes. -/
def oamSize : Nat := 256
/-- Palette RAM size in bytes. -/
def paletteSize : Nat := 32
/-- Nametable VRAM size in bytes. -/
def vramSize : Nat := 2048
/-- `PRG_RAM_SIZE` (D24). -/
def prgRamSize : Nat := 8192
/-- Bytes in one PRG page of a cartridge (R70, R480). -/
def prgPage : Nat := 16384
/-- Bytes in one CHR page of a cartridge (R70, R480). -/
def chrPage : Nat := 8192

/-! ### Free values: no body, so that no proof can rest on a value -/

/-- `ANE_MAGIC`, the open 8-bit constant of 0x8B (46_undocumented.md R355, D8). Free value, notes/assumptions/6.md. -/
opaque aneMagic : Byte

/-- `LXA_MAGIC`, the open 8-bit constant of 0xAB (46_undocumented.md R356, D8). Free value, notes/assumptions/6.md. -/
opaque lxaMagic : Byte

/-- `IoRead(addr)`: the byte the outside world answers to the n-th read of the external port when the host has queued no
answer ("under no law", 20_memory.md R98). Free value, notes/assumptions/7.md. -/
opaque ioAnswer : Nat → Word → Byte

/-- The byte of a PRG read whose offset lies outside the image: AxROM with a 16 KB image, where R485 divides by a bank count of
0 and so states no offset. Free value, notes/assumptions/8.md. -/
opaque outsidePrg : Nat → Byte

end Sys2Proof.Config
end

