-- ==== Sys2Proof/Machine/State.lean ====
section
/-! DEFINITION. The whole state of the machine as plain data, grouped by owner as spec/10_state.md groups it (CPU, interrupt
coordinator, Bus, PPU, Cartridge and Mapper), the state right after reset, and the reasons a step can stop. -/

namespace Sys2Proof.Machine

/-! ### Memories -/

/-- One storage array (RAM, OAM, palette, VRAM, PRG, CHR, SRAM, a row of a frame buffer): the bytes that are not
`Memory.unlisted`, by rising address. Its canonical form is `Memory.wf` (Machine/Memory.lean). -/
abbrev Memory := List Host.Cell

/-- What an address that is not listed reads as. The spec leaves the launch contents of the memories open (R80, D20): every
contents is some state, and this byte is only how a state is written down; that the memories of `State.reset` list nothing is
the model's choice. DESIGN CHOICE, notes/assumptions/1.md, unsafe for a claim about `State.reset` alone. -/
def Memory.unlisted : Byte := 0x00#8

/-- A frame buffer: `FRAME_H` rows of `FRAME_W` colour indices (R64). Row `py`, column `px` is the spec's entry
`py * 256 + px` (R460, R470). -/
abbrev Frame := List Memory

/-! ### CPU register file (R30 to R40) -/

/-- The six stored flags of P (R36, R37). Bits 4 and 5 exist only in a pushed byte (R37, D26). -/
structure Flags where
  /-- bit 0, carry -/
  c : Bool
  /-- bit 1, zero -/
  z : Bool
  /-- bit 2, interrupt-disable -/
  i : Bool
  /-- bit 3, decimal, inert -/
  d : Bool
  /-- bit 6, overflow -/
  v : Bool
  /-- bit 7, negative -/
  n : Bool
deriving DecidableEq, Repr

/-- The CPU register file: three general registers, stack pointer, program counter, flags, and no others (R30). -/
structure Cpu where
  /-- accumulator (R31) -/
  a  : Byte
  /-- index register X (R32) -/
  x  : Byte
  /-- index register Y (R33) -/
  y  : Byte
  /-- stack pointer, page 1 (R34) -/
  sp : Byte
  /-- program counter: the address of the opcode byte (R35) -/
  pc : Word
  /-- flags register (R36 to R38) -/
  p  : Flags
deriving DecidableEq, Repr

/-! ### Interrupt coordinator and stall (R41 to R43) -/

/-- `pendingInterrupt` (R41): the one slot for a request. -/
inductive PendingInterrupt where
  | none | nmi | irq
deriving DecidableEq, Repr

/-- `nmiDelay` (R42, R544). -/
inductive NmiDelay where
  | none
  | delayed (n : Nat)
  | canceled
deriving DecidableEq, Repr

/-- The interrupt coordinator's state and the DMA stall counter. -/
structure Coordinator where
  /-- R41 -/
  pending  : PendingInterrupt
  /-- R42 -/
  nmiDelay : NmiDelay
  /-- CPU cycles owed to OAM DMA (R43) -/
  stall    : Nat
deriving DecidableEq, Repr

/-! ### Bus (R47, R48) -/

/-- The Bus: RAM and the open-bus latch. -/
structure Bus where
  /-- 2048 bytes (R47) -/
  ram      : Memory
  /-- `busLatch` (R48) -/
  latch    : Byte
  /-- `busLatchAge`, CPU cycles since the latch was refreshed (R48) -/
  latchAge : Nat
deriving DecidableEq, Repr

/-! ### PPU (R50 to R64) -/

/-- One entry of the sprite cache (R63). -/
structure Sprite where
  /-- eight pixel nibbles, the leftmost pixel in the top nibble -/
  pattern : BitVec 32
  /-- screen X of the leftmost pixel -/
  sx      : Byte
  /-- background-priority flag -/
  behind  : Bool
  /-- OAM index, 0..63 -/
  index   : Nat
deriving DecidableEq, Repr

/-- The PPU: position, scroll registers, register port, memories, background pipeline, sprite cache and frame buffers. -/
structure Ppu where
  /-- 0..261 (R50) -/
  scanline       : Nat
  /-- 0..340 (R50) -/
  cycle          : Nat
  /-- current scroll/address register (R51) -/
  v              : BitVec 15
  /-- temporary scroll/address register (R51) -/
  t              : BitVec 15
  /-- the spec's `x`, fine X scroll (R52) -/
  fineX          : BitVec 3
  /-- write toggle: false, the next write is the first of a pair (R52) -/
  w              : Bool
  /-- the data port's one-read-behind buffer (R53) -/
  readBuffer     : Byte
  /-- controller register (R54) -/
  ctrl           : Byte
  /-- mask register (R55) -/
  mask           : Byte
  /-- status flag, bit 7 of the byte read (R56) -/
  vblank         : Bool
  /-- status flag, bit 6 of the byte read (R56) -/
  sprite0Hit     : Bool
  /-- status flag, bit 5 of the byte read (R56) -/
  spriteOverflow : Bool
  /-- R57 -/
  oamAddr        : Byte
  /-- 256 bytes (R58) -/
  oam            : Memory
  /-- 32 bytes (R59) -/
  palette        : Memory
  /-- 2048 bytes (R60) -/
  vram           : Memory
  /-- nametable byte latch (R61) -/
  ntByte         : Byte
  /-- palette-select latch (R61) -/
  atBits         : BitVec 2
  /-- low pattern latch (R61) -/
  patLo          : Byte
  /-- high pattern latch (R61) -/
  patHi          : Byte
  /-- sixteen pixel nibbles (R62) -/
  bgShift        : BitVec 64
  /-- 0..8 (R63) -/
  spriteCount    : Nat
  /-- eight entries, of which the first `spriteCount` are in use (R63) -/
  sprites        : List Sprite
  /-- the buffer the compositor writes (R64) -/
  back           : Frame
  /-- the buffer the host reads (R64) -/
  front          : Frame
deriving DecidableEq, Repr

/-! ### Cartridge and Mapper (R70 to R77) -/

/-- `Cartridge.mirroring` while the machine runs (R70, R124). `fourScreen` is refused at construction (D17), so it is a value
of `HeaderMirroring` only. -/
inductive Mirroring where
  | horizontal | vertical | single0 | single1
deriving DecidableEq, Repr

/-- Registers of the serial-shift-register variant, MMC1 (R76). -/
structure Mmc1 where
  /-- accumulated bits -/
  shiftValue : BitVec 5
  /-- how many bits are accumulated, 0..4 -/
  shiftCount : Nat
  /-- bits 1:0 mirroring, 3:2 PRG mode, 4 CHR mode -/
  control    : BitVec 5
  /-- first CHR bank register -/
  chrBank0   : BitVec 5
  /-- second CHR bank register -/
  chrBank1   : BitVec 5
  /-- PRG bank register, 4 bits used -/
  prgBank    : BitVec 4
deriving DecidableEq, Repr

/-- Registers of the multi-register variant with scanline IRQ, MMC3 (R77). -/
structure Mmc3 where
  /-- index of the bank register the next bank-data write goes to -/
  bankSelect : BitVec 3
  /-- PRG layout bit -/
  prgMode    : Bool
  /-- CHR inversion bit -/
  chrMode    : Bool
  /-- `bankReg[0..7]` -/
  bankReg    : List Byte
  /-- reload value of the scanline counter -/
  irqLatch   : Byte
  /-- scanline counter -/
  irqCounter : Byte
  /-- interrupt enable -/
  irqEnable  : Bool
  /-- the level output (R531) -/
  irqLine    : Bool
deriving DecidableEq, Repr

/-- The mapper variant and its registers (R71 to R77, R482). -/
inductive Mapper where
  /-- mapper 0, no state (R72) -/
  | nrom
  /-- mapper 2 (R73) -/
  | uxrom (prgBank : Nat)
  /-- mapper 3 (R74) -/
  | cnrom (chrBank : Nat)
  /-- mapper 7 (R75) -/
  | axrom (prgBank : Nat)
  /-- mapper 1 (R76) -/
  | mmc1 (m : Mmc1)
  /-- mapper 4 (R77) -/
  | mmc3 (m : Mmc3)
deriving DecidableEq, Repr

/-- The cartridge the running machine owns (R70), with its mapper (R71). -/
structure Cart where
  /-- PRG ROM, never written -/
  prg       : Memory
  /-- its length in bytes, a positive multiple of 16384 -/
  prgLen    : Nat
  /-- CHR ROM or RAM -/
  chr       : Memory
  /-- its length in bytes, a positive multiple of 8192 -/
  chrLen    : Nat
  /-- CHR writes are stored only when true -/
  chrIsRam  : Bool
  /-- `PRG_RAM_SIZE` bytes at 0x6000-0x7FFF -/
  sram      : Memory
  /-- nametable mirroring mode -/
  mirroring : Mirroring
  /-- mapper variant and registers -/
  mapper    : Mapper
deriving DecidableEq, Repr

/-! ### External I/O port (R98) -/

/-- One event at the external port (R98). -/
inductive IoEvent where
  /-- `IoRead(addr)` and the byte the host answered -/
  | read (addr : Word) (answer : Byte)
  /-- `IoWrite(addr, v)` -/
  | write (addr : Word) (v : Byte)
deriving DecidableEq, Repr

/-- The external port: what the host has queued as answers, how many reads there have been, and the recorded events.
`answers` and `reads` are the model's own fields (notes/assumptions/7.md). -/
structure IoPort where
  /-- answers the host has ready, first one first -/
  answers : List Byte
  /-- how many `IoRead` events there have been: the index of the next free answer -/
  reads   : Nat
  /-- the events, the latest first, so that its reverse is the program order (R98) -/
  log     : List IoEvent
deriving DecidableEq, Repr

/-! ### The machine -/

/-- Everything the spec gives the machine (10_state.md), and four fields of the model's own: `started` (R595,
notes/assumptions/11.md), `openBusDecay` (an open parameter, notes/assumptions/5.md), `io.answers` and `io.reads`. -/
structure State where
  /-- CPU register file (R30) -/
  cpu          : Cpu
  /-- interrupt coordinator and stall (R41 to R43) -/
  irq          : Coordinator
  /-- CPU cycles ticked since construction (R44) -/
  cycles       : Nat
  /-- true after a JAM opcode (R45) -/
  jammed       : Bool
  /-- what the last step returned (R46, notes/assumptions/12.md) -/
  frameReady   : Bool
  /-- `reset()` has been called since construction (R595) -/
  started      : Bool
  /-- RAM and open-bus latch (R47, R48) -/
  bus          : Bus
  /-- picture unit (R50 to R64) -/
  ppu          : Ppu
  /-- cartridge and mapper (R70 to R77) -/
  cart         : Cart
  /-- external I/O port (R98) -/
  io           : IoPort
  /-- `OPEN_BUS_DECAY_CYCLES` (R10, R115, D5): a positive number (R10) fixed at construction, read by `openBus`,
  written by nothing; that it is positive is `State.Inv.decay` -/
  openBusDecay : Nat
deriving DecidableEq, Repr

/-- The machine reports no fault of any kind: "No behaviour of the CORE has the treatment `fault`"
(93_implementation_defined.md part 1; 60_exceptions.md R553). Nobody raises one, so the type has no constructor. -/
inductive Fault where
deriving DecidableEq, Repr

/-- Why a step is refused. -/
inductive Refusal where
  /-- Raised by an arm of `exec` whose instruction has no meaning yet: none is left. Safe. -/
  | notModelled (mnemonic : String)
  /-- Raised by `step` on a machine that was constructed and never reset: "A `step()` before `reset()` is outside the model"
  (70_reset_and_hazards.md R595; treatment `refuse`, 93_implementation_defined.md part 1). Safe. -/
  | stepBeforeReset
deriving DecidableEq, Repr

/-- The outcome of an instruction or a step. -/
abbrev Result := Host.Outcome State Fault Refusal

/-! ### Power-on and reset values (R83) -/

/-- A frame buffer with every entry 0 (R64, D44). -/
def Frame.blank : Frame := List.replicate Config.frameHeight []

/-- A sprite cache entry nothing has written: never read, because `spriteCount` is 0 (notes/assumptions/14.md). -/
def Sprite.blank : Sprite := { pattern := 0, sx := 0, behind := false, index := 0 }

/-- The PPU after construction: position (0, 0), every register, latch, flag and shift buffer 0 (R83, D13, D44). The three
memories list nothing (D20, notes/assumptions/1.md). -/
def Ppu.powerOn : Ppu where
  scanline := 0
  cycle := 0
  v := 0
  t := 0
  fineX := 0
  w := false
  readBuffer := 0
  ctrl := 0
  mask := 0
  vblank := false
  sprite0Hit := false
  spriteOverflow := false
  oamAddr := 0
  oam := []
  palette := []
  vram := []
  ntByte := 0
  atBits := 0
  patLo := 0
  patHi := 0
  bgShift := 0
  spriteCount := 0
  sprites := List.replicate 8 Sprite.blank
  back := Frame.blank
  front := Frame.blank

/-- The cartridge in the machine of `State.reset`: NROM with 32 KB of PRG that lists nothing, 8 KB of CHR-RAM, horizontal
mirroring (the harness cartridge H of 95_test_vectors.md). DESIGN CHOICE, notes/assumptions/2.md, unsafe for a claim about
`State.reset` alone. -/
def Cart.blank : Cart where
  prg := []
  prgLen := 32768
  chr := []
  chrLen := 8192
  chrIsRam := true
  sram := []
  mirroring := .horizontal
  mapper := .nrom

/-- The machine right after reset: construction from `Cart.blank`, then `reset()` with `RESET_I = 1` and `RESET_CYCLES = 7`
(R83, R590, R591; notes/assumptions/2.md, notes/assumptions/4.md, notes/assumptions/5.md). That this literal is what the two
operations compute is `reset_is_hostReset_of_powerOn` in Laws/Reset.lean. -/
def State.reset : State where
  cpu := { a := 0, x := 0, y := 0, sp := Config.spReset, pc := 0,
           p := { c := false, z := false, i := true, d := false, v := false, n := false } }
  irq := { pending := .none, nmiDelay := .none, stall := 0 }
  cycles := 7
  jammed := false
  frameReady := false
  started := true
  bus := { ram := [], latch := 0, latchAge := 7 }
  ppu := { Ppu.powerOn with cycle := 21 }
  cart := Cart.blank
  io := { answers := [], reads := 0, log := [] }
  openBusDecay := 29782

end Sys2Proof.Machine
end

