-- ==== Sys2Proof/Machine/Memory.lean ====
section
/-! DEFINITION. Reading and writing one storage array, the canonical form the arrays keep, and the frame buffers made of them. -/

namespace Sys2Proof.Machine

/-- The byte at address `a`. -/
def Memory.read : Memory → Nat → Byte
  | [], _ => Memory.unlisted
  | (k, b) :: m, a => if a = k then b else Memory.read m a

/-- A cell in front of `m`, left out when it holds what an unlisted address reads as. -/
def Memory.cell (a : Nat) (b : Byte) (m : Memory) : Memory :=
  if b = Memory.unlisted then m else (a, b) :: m

/-- Store the byte `b` at address `a`, keeping the canonical form. -/
def Memory.write : Memory → Nat → Byte → Memory
  | [], a, b => Memory.cell a b []
  | (k, c) :: m, a, b =>
    if a < k then Memory.cell a b ((k, c) :: m)
    else if a = k then Memory.cell a b m
    else (k, c) :: Memory.write m a b

/-- The canonical form from address `lo` on: addresses strictly rising, no entry equal to the unlisted byte. -/
def Memory.wfFrom : Nat → Memory → Bool
  | _, [] => true
  | lo, (k, b) :: m => decide (lo ≤ k) && decide (b ≠ Memory.unlisted) && Memory.wfFrom (k + 1) m

/-- The canonical form of a storage array, in which equal contents are equal data. -/
def Memory.wf (m : Memory) : Bool := Memory.wfFrom 0 m

/-- Every listed address lies below `size`: the array is not larger than the spec makes it. -/
def Memory.below (size : Nat) (m : Memory) : Bool := m.all fun cell => decide (cell.1 < size)

/-- Entry `(px, py)` of a frame buffer (R470). -/
def Frame.pixel (f : Frame) (px py : Nat) : Byte := Memory.read (f.getD py []) px

/-- Write entry `(px, py)` of a frame buffer (R460). -/
def Frame.setPixel (f : Frame) (px py : Nat) (b : Byte) : Frame := f.set py (Memory.write (f.getD py []) px b)

end Sys2Proof.Machine
end

