-- ==== Sys2Proof/Machine/Mapper.lean ====
section
/-! DEFINITION. The mapper bank-switch controller (spec/49_mappers.md): address translation, register writes and the scanline
counter of the six variants, as functions of the cartridge alone. CPU addresses are Nat in 0x4020..0xFFFF, PPU addresses Nat in
0x0000..0x1FFF. -/

namespace Sys2Proof.Machine

/-! ### Bank arithmetic (R485) -/

/-- How many banks of `size` bytes a buffer of `len` bytes holds (R485). The quotient is rounded down where it is not exact:
AxROM with an odd number of 16 KB pages (notes/assumptions/8.md). -/
def bankCount (size len : Nat) : Nat := len / size

/-- `Bank(n, size, buf)` (R485, D47). -/
def bank (n size len : Nat) : Nat := n % bankCount size len * size

/-- `Bank(-k, size, buf)`, "the k-th from the end" (R485, D47). -/
def bankFromEnd (k size len : Nat) : Nat := (bankCount size len - k) * size

/-! ### MMC1 offsets -/

/-- PRG mode, `control[3:2]` (R76, R510). -/
def Mmc1.prgMode (m : Mmc1) : Nat := m.control.toNat / 4 % 4

/-- CHR mode, `control[4]` (R76, R511). -/
def Mmc1.chrMode (m : Mmc1) : Bool := m.control.getLsbD 4

/-- `PrgOffset` of MMC1 (R510). DESIGN CHOICE: the table holds for an image larger than 256 KB too (notes/assumptions/24.md). -/
def Mmc1.prgOffset (m : Mmc1) (len addr : Nat) : Nat :=
  let b := m.prgBank.toNat
  let low := addr < 0xC000
  (match m.prgMode with
   | 2 => if low then bank 0 0x4000 len else bank b 0x4000 len
   | 3 => if low then bank b 0x4000 len else bankFromEnd 1 0x4000 len
   | _ => if low then bank (b &&& 0x0E) 0x4000 len else bank ((b &&& 0x0E) + 1) 0x4000 len)
  + addr % 0x4000

/-- `ChrOffset` of MMC1 (R511). -/
def Mmc1.chrOffset (m : Mmc1) (len a : Nat) : Nat :=
  let low := a < 0x1000
  (if m.chrMode then
     if low then bank m.chrBank0.toNat 0x1000 len else bank m.chrBank1.toNat 0x1000 len
   else
     if low then bank (m.chrBank0.toNat &&& 0x1E) 0x1000 len else bank ((m.chrBank0.toNat &&& 0x1E) + 1) 0x1000 len)
  + a % 0x1000

/-! ### MMC3 offsets -/

/-- `bankReg[k]` as a number (R77). -/
def Mmc3.reg (m : Mmc3) (k : Nat) : Nat := (m.bankReg.getD k 0).toNat

/-- `PrgOffset` of MMC3 (R522): four 8 KB windows. -/
def Mmc3.prgOffset (m : Mmc3) (len addr : Nat) : Nat :=
  (match (addr - 0x8000) / 0x2000 with
   | 0 => if m.prgMode then bankFromEnd 2 0x2000 len else bank (m.reg 6) 0x2000 len
   | 1 => bank (m.reg 7) 0x2000 len
   | 2 => if m.prgMode then bank (m.reg 6) 0x2000 len else bankFromEnd 2 0x2000 len
   | _ => bankFromEnd 1 0x2000 len)
  + addr % 0x2000

/-- The 1 KB bank number of MMC3 CHR column `col` (0..7) in CHR mode 0 (R523). -/
def Mmc3.chrBank (m : Mmc3) (col : Nat) : Nat :=
  match col with
  | 0 => m.reg 0 &&& 0xFE
  | 1 => (m.reg 0 &&& 0xFE) + 1
  | 2 => m.reg 1 &&& 0xFE
  | 3 => (m.reg 1 &&& 0xFE) + 1
  | 4 => m.reg 2
  | 5 => m.reg 3
  | 6 => m.reg 4
  | _ => m.reg 5

/-- `ChrOffset` of MMC3 (R523): CHR mode 1 exchanges the two halves of the table. -/
def Mmc3.chrOffset (m : Mmc3) (len a : Nat) : Nat :=
  let col := a / 0x400 % 8
  bank (m.chrBank (if m.chrMode then (col + 4) % 8 else col)) 0x400 len + a % 0x400

/-! ### Offsets of all variants (R490 to R493, R510, R511, R522, R523) -/

/-- `PrgOffset(addr)` for a CPU address in 0x8000-0xFFFF. -/
def Cart.prgOffset (c : Cart) (addr : Nat) : Nat :=
  match c.mapper with
  | .nrom => (addr - 0x8000) % c.prgLen
  | .cnrom _ => (addr - 0x8000) % c.prgLen
  | .uxrom b =>
    if addr < 0xC000 then bank b 0x4000 c.prgLen + (addr - 0x8000) else bankFromEnd 1 0x4000 c.prgLen + (addr - 0xC000)
  | .axrom b => bank b 0x8000 c.prgLen + (addr - 0x8000)
  | .mmc1 m => m.prgOffset c.prgLen addr
  | .mmc3 m => m.prgOffset c.prgLen addr

/-- `ChrOffset(a)` for a PPU address in 0x0000-0x1FFF. -/
def Cart.chrOffset (c : Cart) (a : Nat) : Nat :=
  match c.mapper with
  | .nrom | .uxrom _ | .axrom _ => a
  | .cnrom b => bank b 0x2000 c.chrLen + a
  | .mmc1 m => m.chrOffset c.chrLen a
  | .mmc3 m => m.chrOffset c.chrLen a

/-! ### Reads (R484) -/

/-- The PRG byte at an offset of the image: a free value outside it (notes/assumptions/8.md). -/
def Cart.prgByte (c : Cart) (off : Nat) : Byte := if off < c.prgLen then c.prg.read off else Config.outsidePrg off

/-- `Mapper.CpuRead(addr)` in 0x6000-0xFFFF (R484). 0x4020-0x5FFF is unmapped in all six variants (D32): the router makes that
read an open-bus read. -/
def Cart.cpuRead (c : Cart) (addr : Nat) : Byte :=
  if addr < 0x8000 then c.sram.read (addr - 0x6000) else c.prgByte (c.prgOffset addr)

/-- `Mapper.PpuRead(a)`, `a` in 0x0000-0x1FFF (R484). -/
def Cart.ppuRead (c : Cart) (a : Nat) : Byte := c.chr.read (c.chrOffset a)

/-- `Mapper.PpuWrite(a, d)` (R486, D33). -/
def Cart.ppuWrite (c : Cart) (a : Nat) (d : Byte) : Cart :=
  if c.chrIsRam then { c with chr := c.chr.write (c.chrOffset a) d } else c

/-! ### Register writes -/

/-- The mirroring an MMC1 control value selects (R502). -/
def mmc1Mirroring (value : BitVec 5) : Mirroring :=
  match value.toNat % 4 with
  | 0 => .single0
  | 1 => .single1
  | 2 => .vertical
  | _ => .horizontal

/-- `Commit(addr, value)` of MMC1 (R502). DESIGN CHOICE: the PRG-RAM disable bit, bit 4 of the last register, is not kept
(notes/assumptions/23.md). -/
def Cart.mmc1Commit (c : Cart) (m : Mmc1) (addr : Nat) (value : BitVec 5) : Cart :=
  if addr < 0xA000 then { c with mapper := .mmc1 { m with control := value }, mirroring := mmc1Mirroring value }
  else if addr < 0xC000 then { c with mapper := .mmc1 { m with chrBank0 := value } }
  else if addr < 0xE000 then { c with mapper := .mmc1 { m with chrBank1 := value } }
  else { c with mapper := .mmc1 { m with prgBank := value.setWidth 4 } }

/-- `RegisterWrite(addr, d)` of MMC1 (R501): the first bit written becomes bit 0, the fifth write commits. -/
def Cart.mmc1Write (c : Cart) (m : Mmc1) (addr : Nat) (d : Byte) : Cart :=
  if bit d 7 then
    { c with mapper := .mmc1 { m with shiftValue := 0, shiftCount := 0, control := m.control ||| 0x0C#5 } }
  else
    let value := m.shiftValue ||| ((d &&& 1#8).setWidth 5 <<< m.shiftCount)
    if m.shiftCount + 1 = 5 then c.mmc1Commit { m with shiftValue := 0, shiftCount := 0 } addr value
    else { c with mapper := .mmc1 { m with shiftValue := value, shiftCount := m.shiftCount + 1 } }

/-- `RegisterWrite(addr, d)` of MMC3 (R521): the pair is selected by `addr & 0xE000`, the member by `addr & 1`.
DESIGN CHOICE: the PRG-RAM protect byte of 0xA001 is not kept (notes/assumptions/23.md). -/
def Cart.mmc3Write (c : Cart) (m : Mmc3) (addr : Nat) (d : Byte) : Cart :=
  let even := addr % 2 = 0
  if addr < 0xA000 then
    if even then { c with mapper := .mmc3 { m with bankSelect := d.setWidth 3, prgMode := bit d 6, chrMode := bit d 7 } }
    else { c with mapper := .mmc3 { m with bankReg := m.bankReg.set m.bankSelect.toNat d } }
  else if addr < 0xC000 then
    if even then { c with mirroring := if bit d 0 then .horizontal else .vertical } else c
  else if addr < 0xE000 then
    if even then { c with mapper := .mmc3 { m with irqLatch := d } }
    else { c with mapper := .mmc3 { m with irqCounter := 0 } }
  else
    if even then { c with mapper := .mmc3 { m with irqEnable := false, irqLine := false } }
    else { c with mapper := .mmc3 { m with irqEnable := true } }

/-- `RegisterWrite(addr, d)`, `addr` in 0x8000-0xFFFF (R490 to R493, R501, R521). PRG is never changed (D33). -/
def Cart.registerWrite (c : Cart) (addr : Nat) (d : Byte) : Cart :=
  match c.mapper with
  | .nrom => c
  | .uxrom _ => { c with mapper := .uxrom d.toNat }
  | .cnrom _ => { c with mapper := .cnrom d.toNat }
  | .axrom _ => { c with mapper := .axrom (d &&& 0x07#8).toNat, mirroring := if bit d 4 then .single1 else .single0 }
  | .mmc1 m => c.mmc1Write m addr d
  | .mmc3 m => c.mmc3Write m addr d

/-- `Mapper.CpuWrite(addr, d)`, `addr` in 0x4020-0xFFFF (R484). -/
def Cart.cpuWrite (c : Cart) (addr : Nat) (d : Byte) : Cart :=
  if addr < 0x6000 then c
  else if addr < 0x8000 then { c with sram := c.sram.write (addr - 0x6000) d }
  else c.registerWrite addr d

/-! ### The scanline counter (R530, R531) -/

/-- `ScanlineClock()` of MMC3 (R530): only a decrement that reaches zero asserts the line (D48). -/
def Mmc3.clock (m : Mmc3) : Mmc3 :=
  if m.irqCounter = 0 then { m with irqCounter := m.irqLatch }
  else
    let next := m.irqCounter - 1
    { m with irqCounter := next, irqLine := m.irqLine || (decide (next = 0) && m.irqEnable) }

/-- `ScanlineClock()`: nothing in the five other variants (R530). -/
def Cart.scanlineClock (c : Cart) : Cart :=
  match c.mapper with
  | .mmc3 m => { c with mapper := .mmc3 m.clock }
  | _ => c

/-- The level output `irqLine` (R71, R531): constantly false in all variants but MMC3 (R483). -/
def Cart.irqLine (c : Cart) : Bool :=
  match c.mapper with
  | .mmc3 m => m.irqLine
  | _ => false

end Sys2Proof.Machine
end

