-- ==== Sys2Proof/Machine/Ppu.lean ====
section
/-! DEFINITION. The PPU's own memory (spec/20_memory.md R120 to R125), its scroll registers, the scanline state machine
(spec/47_ppu_registers_timing.md), the background pipeline, the sprite evaluator and the compositor (spec/48_ppu_rendering.md),
as functions of the PPU and the cartridge it reads CHR from. PPU addresses are Nat, reduced mod 0x4000 before use (R120). -/

namespace Sys2Proof.Machine

/-! ### Register fields (R54 to R56) -/

/-- `ctrl.increment` (R54). -/
def Ppu.ctrlIncrement (p : Ppu) : Bool := bit p.ctrl 2
/-- `ctrl.spriteTable` (R54). -/
def Ppu.ctrlSpriteTable (p : Ppu) : Bool := bit p.ctrl 3
/-- `ctrl.bgTable` (R54). -/
def Ppu.ctrlBgTable (p : Ppu) : Bool := bit p.ctrl 4
/-- `ctrl.spriteSize` (R54). -/
def Ppu.ctrlSpriteSize (p : Ppu) : Bool := bit p.ctrl 5
/-- `ctrl.nmiEnable` (R54). -/
def Ppu.ctrlNmiEnable (p : Ppu) : Bool := bit p.ctrl 7
/-- `mask.showBgLeft` (R55). -/
def Ppu.maskShowBgLeft (p : Ppu) : Bool := bit p.mask 1
/-- `mask.showSpritesLeft` (R55). -/
def Ppu.maskShowSpritesLeft (p : Ppu) : Bool := bit p.mask 2
/-- `mask.showBg` (R55). -/
def Ppu.maskShowBg (p : Ppu) : Bool := bit p.mask 3
/-- `mask.showSprites` (R55). -/
def Ppu.maskShowSprites (p : Ppu) : Bool := bit p.mask 4

/-- `RenderingEnabled` (R376). -/
def Ppu.renderingEnabled (p : Ppu) : Bool := p.maskShowBg || p.maskShowSprites

/-- A visible scanline, 0-239 (R371). -/
def visibleLine (s : Nat) : Bool := decide (s ≤ 239)
/-- The pre-render scanline, 261 (R371). -/
def preRenderLine (s : Nat) : Bool := decide (s = 261)
/-- A render line: visible or pre-render (R14, R371). -/
def renderLine (s : Nat) : Bool := visibleLine s || preRenderLine s

/-! ### The PPU address space (R120 to R125) -/

/-- The physical table of a virtual nametable (R124). -/
def physicalTable (m : Mirroring) (virt : Nat) : Nat :=
  match m with
  | .horizontal => if virt < 2 then 0 else 1
  | .vertical => virt % 2
  | .single0 => 0
  | .single1 => 1

/-- `NtIndex(a)`, for `a` in 0x2000-0x3EFF (R124). -/
def ntIndex (m : Mirroring) (a : Nat) : Nat :=
  let r := (a - 0x2000) % 0x1000
  physicalTable m (r / 0x400) * 0x400 + r % 0x400

/-- `PalIndex(a)`, for `a` in 0x3F00-0x3FFF (R125). -/
def palIndex (a : Nat) : Nat :=
  let i := a % 0x20
  if i = 0x10 ∨ i = 0x14 ∨ i = 0x18 ∨ i = 0x1C then i - 0x10 else i

/-- `PpuRead(addr)` (R121): no side effects. -/
def Ppu.read (p : Ppu) (cart : Cart) (addr : Nat) : Byte :=
  let a := addr % 0x4000
  if a < 0x2000 then cart.ppuRead a
  else if a < 0x3F00 then p.vram.read (ntIndex cart.mirroring a)
  else p.palette.read (palIndex a)

/-- The part of `PpuWrite(addr, v)` that changes the PPU's own memories (R122). -/
def Ppu.write (p : Ppu) (cart : Cart) (addr : Nat) (v : Byte) : Ppu :=
  let a := addr % 0x4000
  if a < 0x2000 then p
  else if a < 0x3F00 then { p with vram := p.vram.write (ntIndex cart.mirroring a) v }
  else { p with palette := p.palette.write (palIndex a) v }

/-- The part of `PpuWrite(addr, v)` that changes the cartridge (R122, R486). -/
def Cart.ppuBusWrite (cart : Cart) (addr : Nat) (v : Byte) : Cart :=
  let a := addr % 0x4000
  if a < 0x2000 then cart.ppuWrite a v else cart

/-! ### The register port: what stays inside the PPU (R381 to R392) -/

/-- The increment of rule R391. -/
def Ppu.incrementV (p : Ppu) : Ppu := { p with v := p.v + (if p.ctrlIncrement then 32#15 else 1#15) }

/-- Write to register 0, less the NMI (R381). -/
def Ppu.writeCtrl (p : Ppu) (d : Byte) : Ppu :=
  { p with ctrl := d, t := (p.t &&& 0x73FF#15) ||| ((d &&& 0x03#8).setWidth 15 <<< 10) }

/-- Write to register 5 (R388). -/
def Ppu.writeScroll (p : Ppu) (d : Byte) : Ppu :=
  if p.w then
    { p with t := (p.t &&& 0x0C1F#15) ||| ((d &&& 0x07#8).setWidth 15 <<< 12) ||| ((d >>> 3).setWidth 15 <<< 5), w := false }
  else
    { p with t := (p.t &&& 0x7FE0#15) ||| (d >>> 3).setWidth 15, fineX := d.setWidth 3, w := true }

/-- Write to register 6 (R389). -/
def Ppu.writeAddr (p : Ppu) (d : Byte) : Ppu :=
  if p.w then
    let t := (p.t &&& 0x7F00#15) ||| d.setWidth 15
    { p with t := t, v := t, w := false }
  else
    { p with t := (p.t &&& 0x00FF#15) ||| ((d &&& 0x3F#8).setWidth 15 <<< 8), w := true }

/-- Write of one byte to OAM at `oamAddr`, which then advances (R387; each byte of R112). -/
def Ppu.oamPush (p : Ppu) (d : Byte) : Ppu :=
  { p with oam := p.oam.write p.oamAddr.toNat d, oamAddr := p.oamAddr + 1 }

/-- The address of a data-port access, `v & 0x3FFF` (R390, R392). -/
def Ppu.dataAddr (p : Ppu) : Nat := p.v.toNat % 0x4000

/-- The byte a read of register 7 returns (R392). -/
def Ppu.dataByte (p : Ppu) (cart : Cart) : Byte :=
  if p.dataAddr < 0x3F00 then p.readBuffer else p.read cart p.dataAddr

/-- What a read of register 7 does to the PPU (R392): the buffer is refilled, from the nametable byte underneath on a palette
read, and `v` advances. -/
def Ppu.dataRead (p : Ppu) (cart : Cart) : Ppu :=
  let a := p.dataAddr
  Ppu.incrementV
    { p with readBuffer := if a < 0x3F00 then p.read cart a else p.read cart (a - 0x1000) }

/-- The byte a read of register 2 returns, given `OpenBus()` (R384). -/
def Ppu.statusByte (p : Ppu) (openBus : Byte) : Byte :=
  (bitByte p.vblank <<< 7) ||| (bitByte p.sprite0Hit <<< 6) ||| (bitByte p.spriteOverflow <<< 5) ||| (openBus &&& 0x1F#8)

/-! ### Scroll updates of the state machine (R404 to R407) -/

/-- `IncCoarseX()` (R404). -/
def Ppu.incCoarseX (p : Ppu) : Ppu :=
  { p with v := if p.v &&& 0x001F#15 = 0x001F#15 then (p.v &&& 0x7FE0#15) ^^^ 0x0400#15 else p.v + 1#15 }

/-- The coarse-Y step of `IncY()` on a `v` whose fine Y is already 0 (R405): the row after 29 is 0 of the other nametable, the
row after 31 is 0 of the same. -/
def incCoarseY (v : BitVec 15) : BitVec 15 :=
  let y := (v &&& 0x03E0#15) >>> 5
  if y = 29#15 then (v ^^^ 0x0800#15) &&& 0x7C1F#15
  else if y = 31#15 then v &&& 0x7C1F#15
  else (v &&& 0x7C1F#15) ||| ((y + 1#15) <<< 5)

/-- `IncY()` (R405). -/
def Ppu.incY (p : Ppu) : Ppu :=
  { p with v := if p.v &&& 0x7000#15 ≠ 0x7000#15 then p.v + 0x1000#15 else incCoarseY (p.v &&& 0x0FFF#15) }

/-- `CopyX()` (R406). -/
def Ppu.copyX (p : Ppu) : Ppu := { p with v := (p.v &&& 0x7BE0#15) ||| (p.t &&& 0x041F#15) }

/-- `CopyY()` (R407). -/
def Ppu.copyY (p : Ppu) : Ppu := { p with v := (p.v &&& 0x041F#15) ||| (p.t &&& 0x7BE0#15) }

/-! ### Background pipeline (R430 to R438) -/

/-- `FetchNt()` (R432). -/
def Ppu.fetchNt (p : Ppu) (cart : Cart) : Ppu :=
  { p with ntByte := p.read cart (0x2000 ||| (p.v.toNat &&& 0x0FFF)) }

/-- The attribute address of `FetchAt()` (R433). -/
def attributeAddr (v : Nat) : Nat := 0x23C0 ||| (v &&& 0x0C00) ||| ((v >>> 4) &&& 0x38) ||| ((v >>> 2) &&& 0x07)

/-- The quadrant shift of `FetchAt()` (R433). -/
def attributeShift (v : Nat) : Nat := ((v >>> 4) &&& 0x04) ||| (v &&& 0x02)

/-- `FetchAt()` (R433). -/
def Ppu.fetchAt (p : Ppu) (cart : Cart) : Ppu :=
  { p with atBits := (p.read cart (attributeAddr p.v.toNat) >>> attributeShift p.v.toNat).setWidth 2 }

/-- The address of the low pattern byte of the current tile row (R434). -/
def Ppu.patternAddr (p : Ppu) : Nat :=
  0x1000 * bitNat p.ctrlBgTable + 16 * p.ntByte.toNat + p.v.toNat / 0x1000 % 8

/-- `FetchPatLo()` (R434). -/
def Ppu.fetchPatLo (p : Ppu) (cart : Cart) : Ppu := { p with patLo := p.read cart p.patternAddr }

/-- `FetchPatHi()` (R435). -/
def Ppu.fetchPatHi (p : Ppu) (cart : Cart) : Ppu := { p with patHi := p.read cart (p.patternAddr + 8) }

/-- One pixel nibble: two palette bits, then the high and the low pattern bit `k` (R436, R451). -/
def pixelNibble (pal : BitVec 2) (hiByte loByte : Byte) (k : Nat) : BitVec 4 :=
  (pal.setWidth 4 <<< 2) ||| ((bitByte (bit hiByte k)).setWidth 4 <<< 1) ||| (bitByte (bit loByte k)).setWidth 4

/-- The eight pixel nibbles of a tile or sprite row, the first of `order` in the top nibble (R436, R451). -/
def packNibbles (pal : BitVec 2) (hiByte loByte : Byte) (order : List Nat) : BitVec 32 :=
  order.foldl (fun acc k => (acc <<< 4) ||| (pixelNibble pal hiByte loByte k).setWidth 32) 0

/-- Bit positions of a pattern byte from the leftmost pixel on (R436). -/
def leftToRight : List Nat := [7, 6, 5, 4, 3, 2, 1, 0]

/-- Bit positions of a pattern byte for a horizontally flipped sprite (R451). -/
def rightToLeft : List Nat := [0, 1, 2, 3, 4, 5, 6, 7]

/-- `MergeTile()` (R436). -/
def Ppu.mergeTile (p : Ppu) : Ppu :=
  { p with bgShift := p.bgShift ||| (packNibbles p.atBits p.patHi p.patLo leftToRight).setWidth 64 }

/-- The shift of rule R438. -/
def Ppu.shiftBg (p : Ppu) : Ppu := { p with bgShift := p.bgShift <<< 4 }

/-- The phase action of the micro-sequence, by `cycle mod 8` (R400, R431). -/
def Ppu.fetchPhase (p : Ppu) (cart : Cart) (phase : Nat) : Ppu :=
  match phase with
  | 0 => p.mergeTile.incCoarseX
  | 1 => p.fetchNt cart
  | 3 => p.fetchAt cart
  | 5 => p.fetchPatLo cart
  | 7 => p.fetchPatHi cart
  | _ => p

/-! ### Sprite evaluator (R450 to R453) -/

/-- The pattern address of `SpritePattern(tile, attr, row, h)` (R451, R452); `big` is `h = 16`. -/
def Ppu.spriteAddr (p : Ppu) (tile : Byte) (attr : Byte) (row : Nat) (big : Bool) : Nat :=
  if big then
    let r := if bit attr 7 then 15 - row else row
    let top := tile.toNat &&& 0xFE
    let t := if r > 7 then top + 1 else top
    let r' := if r > 7 then r - 8 else r
    0x1000 * (tile.toNat % 2) + 16 * t + r'
  else
    let r := if bit attr 7 then 7 - row else row
    0x1000 * bitNat p.ctrlSpriteTable + 16 * tile.toNat + r

/-- `SpritePattern(tile, attr, row, h)` (R451). -/
def Ppu.spritePattern (p : Ppu) (cart : Cart) (tile attr : Byte) (row : Nat) (big : Bool) : BitVec 32 :=
  let addr := p.spriteAddr tile attr row big
  packNibbles (attr.setWidth 2) (p.read cart (addr + 8)) (p.read cart addr) (if bit attr 6 then rightToLeft else leftToRight)

/-- OAM byte `k` of sprite `i` (R58). -/
def Ppu.oamByte (p : Ppu) (i k : Nat) : Byte := p.oam.read (4 * i + k)

/-- Sprite height (R450). -/
def Ppu.spriteHeight (p : Ppu) : Nat := if p.ctrlSpriteSize then 16 else 8

/-- Sprite `i` is in range on line `s`: `0 <= s - y < h` (R450). -/
def Ppu.spriteInRange (p : Ppu) (s i : Nat) : Bool :=
  let y := (p.oamByte i 0).toNat
  decide (y ≤ s) && decide (s - y < p.spriteHeight)

/-- The cache entry of sprite `i` for line `s` (R450). -/
def Ppu.spriteEntry (p : Ppu) (cart : Cart) (s i : Nat) : Sprite where
  pattern := p.spritePattern cart (p.oamByte i 1) (p.oamByte i 2) (s - (p.oamByte i 0).toNat) p.ctrlSpriteSize
  sx := p.oamByte i 3
  behind := bit (p.oamByte i 2) 5
  index := i

/-- The OAM indexes in range on line `s`, lowest first (R450). -/
def Ppu.spritesInRange (p : Ppu) (s : Nat) : List Nat := (List.range 64).filter (p.spriteInRange s)

/-- Write the entries of the indexes `is` into the cache from slot `n` on (R450). -/
def Ppu.cacheSprites (p : Ppu) (cart : Cart) (s : Nat) : List Nat → Nat → List Sprite → List Sprite
  | [], _, cache => cache
  | i :: is, n, cache => p.cacheSprites cart s is (n + 1) (cache.set n (p.spriteEntry cart s i))

/-- `EvaluateSprites(s)` (R450): the eight lowest in range are cached, a ninth sets the overflow flag (R453). -/
def Ppu.evaluateSprites (p : Ppu) (cart : Cart) (s : Nat) : Ppu :=
  let hits := p.spritesInRange s
  { p with
    sprites := p.cacheSprites cart s (hits.take 8) 0 p.sprites
    spriteCount := min hits.length 8
    spriteOverflow := p.spriteOverflow || decide (8 < hits.length) }

/-! ### Compositor (R460 to R467) -/

/-- `BgPixel()` (R461). -/
def Ppu.bgPixel (p : Ppu) : BitVec 4 :=
  if p.maskShowBg then (p.bgShift >>> (32 + 4 * (7 - p.fineX.toNat))).setWidth 4 else 0

/-- The pixel of one cached sprite at screen column `px`: 0 where it does not reach (R462). -/
def Sprite.pixel (sp : Sprite) (px : Nat) : BitVec 4 :=
  let sx := sp.sx.toNat
  if px < sx ∨ sx + 7 < px then 0 else (sp.pattern >>> (4 * (7 - (px - sx)))).setWidth 4

/-- `c mod 4 != 0`: an opaque pixel (R460, R462). -/
def opaquePixel (c : BitVec 4) : Bool := decide (c.toNat % 4 ≠ 0)

/-- The first cached sprite with an opaque pixel at `px` (R462). -/
def firstSprite (px : Nat) : List Sprite → Option Sprite
  | [] => none
  | sp :: rest => if opaquePixel (sp.pixel px) then some sp else firstSprite px rest

/-- The sprite `SpritePixel(px)` selects (R462), with the left-column clipping (R465). -/
def Ppu.spriteAt (p : Ppu) (px : Nat) : Option Sprite :=
  if p.maskShowSprites && (decide (8 ≤ px) || p.maskShowSpritesLeft) then firstSprite px (p.sprites.take p.spriteCount)
  else none

/-- The background pixel after the left-column clipping (R461, R465). -/
def Ppu.bgAt (p : Ppu) (px : Nat) : BitVec 4 :=
  if decide (8 ≤ px) || p.maskShowBgLeft then p.bgPixel else 0

/-- The palette index `idx` of `RenderPixel` for the background pixel `bg` and the selected sprite (R460). -/
def pixelIndex (bg : BitVec 4) (sprite : Option Sprite) (px : Nat) : Nat :=
  match sprite with
  | none => if opaquePixel bg then bg.toNat else 0
  | some sp => if opaquePixel bg && sp.behind then bg.toNat else 0x10 ||| (sp.pixel px).toNat

/-- The pixel sets the sprite-zero-hit flag (R460, R464). -/
def spriteZeroHit (bg : BitVec 4) (sprite : Option Sprite) : Bool :=
  match sprite with
  | none => false
  | some sp => opaquePixel bg && decide (sp.index = 0)

/-- `RenderPixel(px, py)` (R460, R466, R467). -/
def Ppu.renderPixel (p : Ppu) (px py : Nat) : Ppu :=
  let bg := p.bgAt px
  let sprite := p.spriteAt px
  { p with
    sprite0Hit := p.sprite0Hit || spriteZeroHit bg sprite
    back := p.back.setPixel px py (p.palette.read (palIndex (0x3F00 + pixelIndex bg sprite px)) &&& 0x3F#8) }

/-! ### One PPU cycle (R400 to R403) -/

/-- The pixel of position `(s, c)` (R400). -/
def Ppu.pixelPart (p : Ppu) (s c : Nat) : Ppu :=
  if visibleLine s && decide (1 ≤ c ∧ c ≤ 256) then p.renderPixel (c - 1) s else p

/-- The shift and the micro-sequence of position `(s, c)` of a render line (R400, R431). -/
def Ppu.fetchPart (p : Ppu) (cart : Cart) (c : Nat) : Ppu :=
  if (1 ≤ c ∧ c ≤ 256) ∨ (321 ≤ c ∧ c ≤ 336) then p.shiftBg.fetchPhase cart (c % 8) else p

/-- The scroll copies and increments of position `(s, c)` of a render line (R400). -/
def Ppu.scrollPart (p : Ppu) (s c : Nat) : Ppu :=
  if c = 256 then p.incY
  else if c = 257 then p.copyX
  else if preRenderLine s && decide (280 ≤ c ∧ c ≤ 304) then p.copyY
  else p

/-- The sprite evaluation of position `(s, c)` of a render line (R400, R450). -/
def Ppu.spritePart (p : Ppu) (cart : Cart) (s c : Nat) : Ppu :=
  if c = 257 then
    if visibleLine s then p.evaluateSprites cart s else { p with spriteCount := 0 }
  else p

/-- Everything that needs rendering enabled and a render line (R400). -/
def Ppu.renderPart (p : Ppu) (cart : Cart) (s c : Nat) : Ppu :=
  if p.renderingEnabled && renderLine s then ((p.fetchPart cart c).scrollPart s c).spritePart cart s c else p

/-- The status flags of `VblankStart()` and `PreRenderClear()` (R402, R403). -/
def Ppu.statusPart (p : Ppu) (s c : Nat) : Ppu :=
  if s = 241 ∧ c = 1 then { p with vblank := true }
  else if s = 261 ∧ c = 1 then { p with vblank := false, sprite0Hit := false, spriteOverflow := false }
  else p

/-- `Advance()`, with `SwapBuffers()` (R401, R469). -/
def Ppu.advance (p : Ppu) : Ppu :=
  if p.cycle + 1 = Config.ppuCyclesPerLine then
    if p.scanline + 1 = Config.ppuLinesPerFrame then
      { p with cycle := 0, scanline := 0, back := p.front, front := p.back }
    else { p with cycle := 0, scanline := p.scanline + 1 }
  else { p with cycle := p.cycle + 1 }

/-- `PpuCycle()` (R400) as far as it concerns the PPU; its two effects on the interrupt coordinator and the frame-ready flag
are in `ppuDot` (Machine/Ops.lean). -/
def Ppu.dot (p : Ppu) (cart : Cart) : Ppu :=
  let s := p.scanline
  let c := p.cycle
  (((p.pixelPart s c).renderPart cart s c).statusPart s c).advance

end Sys2Proof.Machine
end

