-- ==== Sys2Proof/Machine/Ops.lean ====
section
/-! DEFINITION. The named operations over registers and memory: state updates, open bus, the interrupt coordinator, the PPU
register port, the address router (`memRead`, `memWrite`), OAM DMA, the stack, the tick of the subordinate devices, and taking
an interrupt and returning from one (spec/20_memory.md, spec/47_ppu_registers_timing.md, spec/60_exceptions.md). -/

namespace Sys2Proof.Machine

/-! ### Updates of one part of the state -/

/-- Replace the CPU register file. -/
def State.setCpu (s : State) (c : Cpu) : State := { s with cpu := c }
/-- Replace the interrupt coordinator. -/
def State.setIrq (s : State) (c : Coordinator) : State := { s with irq := c }
/-- Replace the Bus part. -/
def State.setBus (s : State) (b : Bus) : State := { s with bus := b }
/-- Replace the PPU. -/
def State.setPpu (s : State) (p : Ppu) : State := { s with ppu := p }
/-- Replace the cartridge. -/
def State.setCart (s : State) (c : Cart) : State := { s with cart := c }
/-- Replace the external port. -/
def State.setIo (s : State) (p : IoPort) : State := { s with io := p }
/-- Replace the cycle counter. -/
def State.setCycles (s : State) (n : Nat) : State := { s with cycles := n }
/-- Replace the jammed flag. -/
def State.setJammed (s : State) (b : Bool) : State := { s with jammed := b }
/-- Replace the frame-ready flag. -/
def State.setFrameReady (s : State) (b : Bool) : State := { s with frameReady := b }

/-- Write A. -/
def Cpu.setA (c : Cpu) (v : Byte) : Cpu := { c with a := v }
/-- Write X. -/
def Cpu.setX (c : Cpu) (v : Byte) : Cpu := { c with x := v }
/-- Write Y. -/
def Cpu.setY (c : Cpu) (v : Byte) : Cpu := { c with y := v }
/-- Write SP. -/
def Cpu.setSp (c : Cpu) (v : Byte) : Cpu := { c with sp := v }
/-- Write PC. -/
def Cpu.setPc (c : Cpu) (v : Word) : Cpu := { c with pc := v }
/-- Write P. -/
def Cpu.setP (c : Cpu) (v : Flags) : Cpu := { c with p := v }

/-! ### The flags register as a byte (R37) -/

/-- `PByte(b)`: bit 5 is 1, bit 4 is the break bit of the push (R37). -/
def Flags.toByte (p : Flags) (b : Bool) : Byte :=
  (bitByte p.n <<< 7) ||| (bitByte p.v <<< 6) ||| 0x20#8 ||| (bitByte b <<< 4) ||| (bitByte p.d <<< 3) |||
    (bitByte p.i <<< 2) ||| (bitByte p.z <<< 1) ||| bitByte p.c

/-- Loading P from a byte: bits 4 and 5 are ignored (R37). -/
def Flags.ofByte (m : Byte) : Flags where
  c := bit m 0
  z := bit m 1
  i := bit m 2
  d := bit m 3
  v := bit m 6
  n := bit m 7

/-! ### Open bus (R114, R115) -/

/-- `OpenBus()` (R115). -/
def State.openBus (s : State) : Byte := if s.bus.latchAge < s.openBusDecay then s.bus.latch else 0

/-- A bus access that drives the byte `b`: the latch and its age are refreshed (R114). -/
def State.drive (s : State) (b : Byte) : State := s.setBus { s.bus with latch := b, latchAge := 0 }

/-! ### The interrupt coordinator (R541 to R547) -/

/-- `TriggerNmi()` (R541). -/
def Coordinator.triggerNmi (c : Coordinator) : Coordinator := { c with pending := .nmi }

/-- `TriggerIrq()` (R542): it does not look at P.I and never displaces a request. Decision D12 words a gate on P.I that R542, R549 and
step 111 of 95_test_vectors.md exclude; no step differs (notes/assumptions/9.md). -/
def Coordinator.triggerIrq (c : Coordinator) : Coordinator :=
  match c.pending with
  | .none => { c with pending := .irq }
  | _ => c

/-- `AddStall(n)` (R543). -/
def Coordinator.addStall (c : Coordinator) (n : Nat) : Coordinator := { c with stall := c.stall + n }

/-- `ScheduleNmi()` (R545). -/
def Coordinator.scheduleNmi (c : Coordinator) : Coordinator :=
  match c.nmiDelay with
  | .canceled => c
  | _ => { c with nmiDelay := .delayed Config.nmiDelayInit }

/-- `AdvanceNmiDelay()` (R546). -/
def Coordinator.advanceNmiDelay (c : Coordinator) : Coordinator :=
  match c.nmiDelay with
  | .delayed n => if n ≤ 1 then ({ c with nmiDelay := .none } : Coordinator).triggerNmi else { c with nmiDelay := .delayed (n - 1) }
  | _ => c

/-- A `canceled` delay becomes `none` (R403, R547). -/
def Coordinator.uncancel (c : Coordinator) : Coordinator :=
  match c.nmiDelay with
  | .canceled => { c with nmiDelay := .none }
  | _ => c

/-- `NmiEnableRisingEdge()` (R547). -/
def Coordinator.nmiEnableRisingEdge (c : Coordinator) (vblank : Bool) : Coordinator :=
  if vblank then c.uncancel.scheduleNmi else c.uncancel

/-- What a status read does to the delay (R384, R547). -/
def Coordinator.statusRead (c : Coordinator) (vblank : Bool) : Coordinator :=
  match c.nmiDelay with
  | .delayed _ => if vblank then { c with nmiDelay := .canceled } else c
  | _ => c

/-! ### The PPU register port (R380 to R393) -/

/-- Read of register 2 (R384). -/
def statusRead (s : State) : Byte × State :=
  let b := s.ppu.statusByte s.openBus
  (b, ((s.setIrq (s.irq.statusRead s.ppu.vblank)).setPpu { s.ppu with vblank := false, w := false }).drive b)

/-- Read of register 4 (R386). -/
def oamDataRead (s : State) : Byte × State :=
  let b := s.ppu.oam.read s.ppu.oamAddr.toNat
  (b, s.drive b)

/-- Read of register 7 (R392). -/
def ppuDataRead (s : State) : Byte × State :=
  let b := s.ppu.dataByte s.cart
  (b, (s.setPpu (s.ppu.dataRead s.cart)).drive b)

/-- `PpuRegRead(r)`: registers 0, 1, 3, 5 and 6 are open-bus reads, which change nothing (R94, R115, R380, R383). -/
def ppuRegRead (r : Nat) (s : State) : Byte × State :=
  match r with
  | 2 => statusRead s
  | 4 => oamDataRead s
  | 7 => ppuDataRead s
  | _ => (s.openBus, s)

/-- Write to register 0 (R381). -/
def ppuCtrlWrite (d : Byte) (s : State) : State :=
  let old := s.ppu.ctrlNmiEnable
  let p := s.ppu.writeCtrl d
  let s := s.setPpu p
  if !old && p.ctrlNmiEnable then s.setIrq (s.irq.nmiEnableRisingEdge p.vblank) else s

/-- Write to register 7 (R390, R391). -/
def ppuDataWrite (d : Byte) (s : State) : State :=
  let a := s.ppu.dataAddr
  (s.setPpu (s.ppu.write s.cart a d).incrementV).setCart (s.cart.ppuBusWrite a d)

/-- `PpuRegWrite(r, d)` (R380). -/
def ppuRegWrite (r : Nat) (d : Byte) (s : State) : State :=
  match r with
  | 0 => ppuCtrlWrite d s
  | 1 => s.setPpu { s.ppu with mask := d }
  | 3 => s.setPpu { s.ppu with oamAddr := d }
  | 4 => s.setPpu (s.ppu.oamPush d)
  | 5 => s.setPpu (s.ppu.writeScroll d)
  | 6 => s.setPpu (s.ppu.writeAddr d)
  | 7 => ppuDataWrite d s
  | _ => s

/-! ### The external I/O port (R98) -/

/-- The byte the host answers to the next `IoRead(addr)`: a queued answer, or else a free value (notes/assumptions/7.md). -/
def IoPort.answer (p : IoPort) (addr : Word) : Byte :=
  match p.answers with
  | b :: _ => b
  | [] => Config.ioAnswer p.reads addr

/-- `IoRead(addr)` (R98). -/
def ioRead (addr : Word) (s : State) : Byte × State :=
  let b := s.io.answer addr
  (b, (s.setIo { answers := s.io.answers.tail, reads := s.io.reads + 1, log := .read addr b :: s.io.log }).drive b)

/-- `IoWrite(addr, v)` (R98). -/
def ioWrite (addr : Word) (v : Byte) (s : State) : State := s.setIo { s.io with log := .write addr v :: s.io.log }

/-! ### The address router (R90 to R100) -/

/-- `MemRead(addr, 1)` (R91): the byte, and the state after its side effects. -/
def memRead (addr : Word) (s : State) : Byte × State :=
  let a := addr.toNat
  if a < 0x2000 then
    let b := s.bus.ram.read (a % 0x0800)
    (b, s.drive b)
  else if a < 0x4000 then ppuRegRead (a % 8) s
  else if a = 0x4014 then (s.openBus, s)
  else if a < 0x4018 then ioRead addr s
  else if a < 0x4020 then (0, s.drive 0)
  else if a < 0x6000 then (s.openBus, s)
  else
    let b := s.cart.cpuRead a
    (b, s.drive b)

/-- The copy loop of OAM DMA over the offsets `is` of a page: each byte is read through `memRead` with all its side effects,
then written at `oamAddr` (R112). -/
def dmaCopy (page : Byte) : List Nat → State → State
  | [], s => s
  | i :: is, s =>
    let r := memRead (word page (BitVec.ofNat 8 i)) s
    dmaCopy page is (r.2.setPpu (r.2.ppu.oamPush r.1))

/-- OAM DMA from a page (R112): the copy, and 513 or 514 cycles of stall by the parity of `cycles` before the writing
instruction's own ticks (D4). -/
def oamDma (page : Byte) (s : State) : State :=
  let s := dmaCopy page (List.range 256) s
  s.setIrq (s.irq.addStall (Config.dmaStallBase + s.cycles % 2))

/-- `MemWrite(addr, 1, v)` (R92): the latch first, then the target. -/
def memWrite (addr : Word) (v : Byte) (s : State) : State :=
  let a := addr.toNat
  let s := s.drive v
  if a < 0x2000 then s.setBus { s.bus with ram := s.bus.ram.write (a % 0x0800) v }
  else if a < 0x4000 then ppuRegWrite (a % 8) v s
  else if a = 0x4014 then oamDma v s
  else if a < 0x4018 then ioWrite addr v s
  else if a < 0x4020 then s
  else s.setCart (s.cart.cpuWrite a v)

/-- `MemRead(addr, 2)`: low byte at `addr` first, high byte at `addr + 1` mod 65536 (R101). -/
def memReadWord (addr : Word) (s : State) : Word × State :=
  let l := memRead addr s
  let h := memRead (addr + 1) l.2
  (word h.1 l.1, h.2)

/-! ### The stack (R104 to R107) -/

/-- The stack address of SP (R34). -/
def stackAddr (sp : Byte) : Word := word 0x01#8 sp

/-- `Push(b)` (R104). -/
def push (b : Byte) (s : State) : State :=
  let s' := memWrite (stackAddr s.cpu.sp) b s
  s'.setCpu (s'.cpu.setSp (s'.cpu.sp - 1))

/-- `Pop()` (R105). -/
def pop (s : State) : Byte × State :=
  let s := s.setCpu (s.cpu.setSp (s.cpu.sp + 1))
  memRead (stackAddr s.cpu.sp) s

/-- `PushWord(w)` (R106). -/
def pushWord (w : Word) (s : State) : State := push (lo w) (push (hi w) s)

/-- `PopWord()` (R107). -/
def popWord (s : State) : Word × State :=
  let l := pop s
  let h := pop l.2
  (word h.1 l.1, h.2)

/-! ### Ticking the subordinate devices (R110, R111) -/

/-- What `PpuCycle` at position `(sl, c)` does to the coordinator: `VblankStart` schedules an NMI if it is enabled (R402),
`PreRenderClear` ends a cancelled one (R403). -/
def nmiPart (sl c : Nat) (nmiEnable : Bool) (q : Coordinator) : Coordinator :=
  if sl = 241 ∧ c = 1 then (if nmiEnable then q.scheduleNmi else q)
  else if sl = 261 ∧ c = 1 then q.uncancel
  else q

/-- One `PpuCycle()` (R400), then the mapper's scanline clock if the position just processed is the mapper's (R111 part 3). -/
def ppuDot (s : State) : State :=
  let sl := s.ppu.scanline
  let c := s.ppu.cycle
  let p := s.ppu.dot s.cart
  let s := (s.setIrq (nmiPart sl c s.ppu.ctrlNmiEnable s.irq)).setPpu p
  let s := s.setFrameReady (s.frameReady || decide (sl = 261 ∧ c = 340))
  if decide (c = Config.mapperIrqCycle) && renderLine sl && p.renderingEnabled then s.setCart s.cart.scanlineClock else s

/-- Part 1 and 2 of `TickOne()`: the counters and the NMI delay (R111). -/
def tickCounters (s : State) : State :=
  ((s.setCycles (s.cycles + 1)).setBus { s.bus with latchAge := s.bus.latchAge + 1 }).setIrq s.irq.advanceNmiDelay

/-- Part 4 of `TickOne()`: the level interrupt of the mapper (R111, R531). -/
def tickIrqLine (s : State) : State := if s.cart.irqLine then s.setIrq s.irq.triggerIrq else s

/-- `TickOne()`, one CPU cycle (R111): three PPU cycles, `Config.cpuPpuRatio`. -/
def tickOne (s : State) : State := tickIrqLine (ppuDot (ppuDot (ppuDot (tickCounters s))))

/-- `Tick(n)` (R110). -/
def tick : Nat → State → State
  | 0, s => s
  | n + 1, s => tick n (tickOne s)

/-! ### Taking an interrupt and returning from one (R550, R285, R284) -/

/-- The shared entry sequence of BRK, NMI and IRQ: push the return address, push the flags with the break bit `brk` and the
old I, load PC from the vector, set I (R550, R285, R552). -/
def enterInterrupt (ret : Word) (brk : Bool) (vector : Word) (s : State) : State :=
  let s := pushWord ret s
  let s := push (s.cpu.p.toByte brk) s
  let v := memReadWord vector s
  v.2.setCpu ((v.2.cpu.setPc v.1).setP { v.2.cpu.p with i := true })

/-- `ServiceInterrupt(vector)` (R550). -/
def serviceInterrupt (vector : Word) (s : State) : State := enterInterrupt s.cpu.pc false vector s

/-- The return sequence of RTI: flags from the pulled byte, then PC, with no + 1 (R284). -/
def returnFromInterrupt (s : State) : State :=
  let m := pop s
  let s := m.2.setCpu (m.2.cpu.setP (Flags.ofByte m.1))
  let w := popWord s
  w.2.setCpu (w.2.cpu.setPc w.1)

/-! ### The end of an instruction (R172) -/

/-- PC advances by the instruction's length mod 65536 (R35, R172). -/
def advancePc (len : Nat) (s : State) : State := s.setCpu (s.cpu.setPc (s.cpu.pc + BitVec.ofNat 16 len))

/-- The end of an instruction that did not write PC: advance by `len`, then tick `cycles` (R172). -/
def finish (len cycles : Nat) (s : State) : Result := .next (tick cycles (advancePc len s))

/-- The end of an instruction that wrote PC: tick `cycles` (R172). -/
def finishJump (cycles : Nat) (s : State) : Result := .next (tick cycles s)

end Sys2Proof.Machine
end

