-- ==== Sys2Proof/Machine/Construct.lean ====
section
/-! DEFINITION. What the host does to the machine outside a step: building the CORE from a cartridge (spec/49_mappers.md R480,
R482; spec/70_reset_and_hazards.md R590) and `reset()` (R591), and reading the finished frame (spec/48_ppu_rendering.md R470). -/

namespace Sys2Proof.Machine

/-- The mirroring mode a cartridge comes with (R70, R124). -/
inductive HeaderMirroring where
  | horizontal | vertical | single0 | single1 | fourScreen
deriving DecidableEq, Repr

/-- A cartridge as the loader hands it over (R70, R480): the contents of the memories are launch state (R80). `chrLen = 0` says
that the container gave no CHR data. -/
structure Cartridge where
  /-- PRG ROM contents -/
  prg          : Memory
  /-- PRG length in bytes -/
  prgLen       : Nat
  /-- CHR contents -/
  chr          : Memory
  /-- CHR length in bytes, 0 for CHR-RAM -/
  chrLen       : Nat
  /-- battery RAM contents, read once at construction (R80) -/
  sram         : Memory
  /-- mirroring mode -/
  mirroring    : HeaderMirroring
  /-- mapper-number tag -/
  mapperNumber : Nat
deriving DecidableEq, Repr

/-- The contents of the machine's own memories at power-on: launch state, any bytes (R80, D20), and the open parameter
`OPEN_BUS_DECAY_CYCLES`, any positive natural number (R10, D5). -/
structure Launch where
  /-- RAM -/
  ram          : Memory
  /-- nametable VRAM -/
  vram         : Memory
  /-- OAM -/
  oam          : Memory
  /-- palette RAM -/
  palette      : Memory
  /-- `OPEN_BUS_DECAY_CYCLES` -/
  openBusDecay : Nat
  /-- the range R10 gives the parameter -/
  decayPos     : 0 < openBusDecay := by decide
deriving DecidableEq, Repr

/-- Why construction is refused: "the session simply never starts" (R480). -/
inductive ConstructError where
  /-- the mapper number is none of 0, 1, 2, 3, 4, 7 (R482, D22) -/
  | unsupportedMapper (n : Nat)
  /-- four tables do not fit the 2 KB store (R124, D17) -/
  | fourScreen
  /-- PRG is empty or its length is not a multiple of 16384 (R480) -/
  | badPrgLength (n : Nat)
  /-- the CHR length is not a multiple of 8192 (R480) -/
  | badChrLength (n : Nat)
deriving DecidableEq, Repr

/-- MMC1 at power-on (R76). -/
def Mmc1.powerOn : Mmc1 := { shiftValue := 0, shiftCount := 0, control := 0x0C#5, chrBank0 := 0, chrBank1 := 0, prgBank := 0 }

/-- MMC3 at power-on (R77). -/
def Mmc3.powerOn : Mmc3 where
  bankSelect := 0
  prgMode := false
  chrMode := false
  bankReg := List.replicate 8 0
  irqLatch := 0
  irqCounter := 0
  irqEnable := false
  irqLine := false

/-- The variant of a mapper number, its registers at their power-on values (R72 to R77, R482). -/
def Mapper.ofNumber (n : Nat) : Option Mapper :=
  match n with
  | 0 => some .nrom
  | 1 => some (.mmc1 Mmc1.powerOn)
  | 2 => some (.uxrom 0)
  | 3 => some (.cnrom 0)
  | 4 => some (.mmc3 Mmc3.powerOn)
  | 7 => some (.axrom 0)
  | _ => none

/-- The run-time mirroring of a header mode: none for four-screen (D17). -/
def Mirroring.ofHeader (m : HeaderMirroring) : Option Mirroring :=
  match m with
  | .horizontal => some .horizontal
  | .vertical => some .vertical
  | .single0 => some .single0
  | .single1 => some .single1
  | .fourScreen => none

/-- Mirroring at power-on: AxROM starts with `single0` (R75, D46), the others with the host's mode (R83). -/
def powerOnMirroring (mapper : Mapper) (m : Mirroring) : Mirroring :=
  match mapper with
  | .axrom _ => .single0
  | _ => m

/-- The cartridge inside the machine, from the loader's and the selected variant (R480, D42: no CHR data is 8 KB of CHR-RAM). -/
def Cart.insert (c : Cartridge) (mapper : Mapper) (m : Mirroring) : Cart where
  prg := c.prg
  prgLen := c.prgLen
  chr := c.chr
  chrLen := if c.chrLen = 0 then Config.chrPage else c.chrLen
  chrIsRam := decide (c.chrLen = 0)
  sram := c.sram
  mirroring := powerOnMirroring mapper m
  mapper := mapper

/-- The state of the CORE after construction (R83, R590). PC has no value yet (R595): `started` is false and `step` refuses, and
0 stands in its place (notes/assumptions/11.md). P.I is `RESET_I` (D9). -/
def powerOn (resetI : Bool) (l : Launch) (cart : Cart) : State where
  cpu := { a := 0, x := 0, y := 0, sp := Config.spReset, pc := 0,
           p := { c := false, z := false, i := resetI, d := false, v := false, n := false } }
  irq := { pending := .none, nmiDelay := .none, stall := 0 }
  cycles := 0
  jammed := false
  frameReady := false
  started := false
  bus := { ram := l.ram, latch := 0, latchAge := 0 }
  ppu := { Ppu.powerOn with vram := l.vram, oam := l.oam, palette := l.palette }
  cart := cart
  io := { answers := [], reads := 0, log := [] }
  openBusDecay := l.openBusDecay

/-- Construction (R480, R590): refused for an unsupported mapper, four-screen mirroring or a bad length. Every
other length is taken, an MMC1 image above 256 KB too (notes/assumptions/24.md). -/
def construct (resetI : Bool) (l : Launch) (c : Cartridge) : Except ConstructError State :=
  match Mapper.ofNumber c.mapperNumber, Mirroring.ofHeader c.mirroring with
  | none, _ => .error (.unsupportedMapper c.mapperNumber)
  | _, none => .error .fourScreen
  | some mapper, some m =>
    if c.prgLen = 0 ∨ c.prgLen % Config.prgPage ≠ 0 then .error (.badPrgLength c.prgLen)
    else if c.chrLen % Config.chrPage ≠ 0 then .error (.badChrLength c.chrLen)
    else .ok (powerOn resetI l (Cart.insert c mapper m))

/-- The CPU registers after `reset()`, less PC (R591). -/
def Cpu.resetRegisters (c : Cpu) (resetI : Bool) : Cpu :=
  { c with a := 0, x := 0, y := 0, sp := Config.spReset,
           p := { c := false, z := false, i := resetI, d := false, v := false, n := false } }

/-- `reset()` (R591): the CPU registers, the interrupt slot, the NMI delay, the stall and the jam are cleared, PC comes from the
vector, and `RESET_CYCLES` are ticked. `RESET_I` and `RESET_CYCLES` are open (D9, D10, notes/assumptions/4.md). -/
def hostReset (resetI : Bool) (resetCycles : Nat) (s : State) : State :=
  let s := { s with cpu := s.cpu.resetRegisters resetI, irq := { pending := .none, nmiDelay := .none, stall := 0 }, jammed := false,
                    started := true }
  let v := memReadWord Config.resetVector s
  tick resetCycles (v.2.setCpu (v.2.cpu.setPc v.1))

/-- What the host reads of the completed frame: `front[py * 256 + px]` (R470). -/
def State.frontPixel (s : State) (px py : Nat) : Byte := s.ppu.front.pixel px py

end Sys2Proof.Machine
end

