-- ==== Sys2Proof/Machine/Flags.lean ====
section
/-! DEFINITION. Every flag computation and every data operation of the instructions, as functions on the register file and the
operand byte (spec/10_state.md R39, spec/42_arithmetic_logic.md R230 to R247, spec/43_shift_rotate.md R260, and the operations of
spec/46_undocumented.md). -/

namespace Sys2Proof.Machine

/-! ### Flags -/

/-- `SetZN(v)` (R39). -/
def Flags.setZN (p : Flags) (v : Byte) : Flags := { p with z := decide (v = 0#8), n := bit v 7 }

/-- `SetZN(v)` on the register file (R39). -/
def Cpu.setZN (c : Cpu) (v : Byte) : Cpu := c.setP (c.p.setZN v)

/-- `P.C <- b`. -/
def Cpu.setC (c : Cpu) (b : Bool) : Cpu := c.setP { c.p with c := b }

/-! ### The adder and the comparator (R246, R247) -/

/-- The unbounded sum of `AddWithCarry(m)`: 0..511 (R246). -/
def addSum (a m : Byte) (carry : Bool) : Nat := a.toNat + m.toNat + bitNat carry

/-- The result byte of `AddWithCarry(m)` (R246). -/
def addByte (a m : Byte) (carry : Bool) : Byte := BitVec.ofNat 8 (addSum a m carry)

/-- The overflow flag of `AddWithCarry(m)`: both inputs have the sign the result lacks (R246). -/
def addOverflow (a m r : Byte) : Bool := decide (((a ^^^ r) &&& (m ^^^ r) &&& 0x80#8) ≠ 0#8)

/-- `AddWithCarry(m)` (R246). D is not read (R230). -/
def addWithCarry (c : Cpu) (m : Byte) : Cpu :=
  let r := addByte c.a m c.p.c
  ((c.setP { c.p with c := decide (255 < addSum c.a m c.p.c), v := addOverflow c.a m r }).setA r).setZN r

/-- Subtraction with borrow is the addition of the complement (R232). -/
def subtractWithBorrow (c : Cpu) (m : Byte) : Cpu := addWithCarry c (m ^^^ 0xFF#8)

/-- `Compare(r, m)` (R247): unsigned in C, bit 7 of the wrapped difference in N. -/
def compare (c : Cpu) (r m : Byte) : Cpu :=
  c.setP { c.p with c := decide (m.toNat ≤ r.toNat), z := decide (r = m), n := bit (r - m) 7 }

/-! ### Shifts and rotates (R260): the result byte and the new carry -/

/-- `Asl(m)`. -/
def asl (m : Byte) : Byte × Bool := (m <<< 1, bit m 7)
/-- `Lsr(m)`. -/
def lsr (m : Byte) : Byte × Bool := (m >>> 1, bit m 0)
/-- `Rol(m, k)`. -/
def rol (m : Byte) (k : Bool) : Byte × Bool := ((m <<< 1) ||| bitByte k, bit m 7)
/-- `Ror(m, k)`. -/
def ror (m : Byte) (k : Bool) : Byte × Bool := ((m >>> 1) ||| (bitByte k <<< 7), bit m 0)

/-! ### Operations of the read class: register file and operand byte -/

/-- LDA (R201). -/
def opLda (c : Cpu) (m : Byte) : Cpu := (c.setA m).setZN m
/-- LDX (R202). -/
def opLdx (c : Cpu) (m : Byte) : Cpu := (c.setX m).setZN m
/-- LDY (R203). -/
def opLdy (c : Cpu) (m : Byte) : Cpu := (c.setY m).setZN m
/-- AND (R233). -/
def opAnd (c : Cpu) (m : Byte) : Cpu := (c.setA (c.a &&& m)).setZN (c.a &&& m)
/-- ORA (R234). -/
def opOra (c : Cpu) (m : Byte) : Cpu := (c.setA (c.a ||| m)).setZN (c.a ||| m)
/-- EOR (R235). -/
def opEor (c : Cpu) (m : Byte) : Cpu := (c.setA (c.a ^^^ m)).setZN (c.a ^^^ m)
/-- ADC (R231). -/
def opAdc (c : Cpu) (m : Byte) : Cpu := addWithCarry c m
/-- SBC (R232, R343). -/
def opSbc (c : Cpu) (m : Byte) : Cpu := subtractWithBorrow c m
/-- CMP (R236). -/
def opCmp (c : Cpu) (m : Byte) : Cpu := compare c c.a m
/-- CPX (R237). -/
def opCpx (c : Cpu) (m : Byte) : Cpu := compare c c.x m
/-- CPY (R238). -/
def opCpy (c : Cpu) (m : Byte) : Cpu := compare c c.y m
/-- BIT (R239): N and V from the operand, Z from the AND. -/
def opBit (c : Cpu) (m : Byte) : Cpu := c.setP { c.p with z := decide (c.a &&& m = 0#8), n := bit m 7, v := bit m 6 }
/-- LAX (R331). -/
def opLax (c : Cpu) (m : Byte) : Cpu := ((c.setA m).setX m).setZN m
/-- The operand NOPs: the byte is discarded (R345 to R347). -/
def opNop (c : Cpu) (_ : Byte) : Cpu := c
/-- ANC (R339). -/
def opAnc (c : Cpu) (m : Byte) : Cpu := (opAnd c m).setC (bit (c.a &&& m) 7)
/-- ALR (R340). -/
def opAlr (c : Cpu) (m : Byte) : Cpu :=
  let r := lsr (c.a &&& m)
  ((c.setC r.2).setA r.1).setZN r.1
/-- ARR (R341): binary mode, C from bit 6 and V from bits 6 and 5 of the result. -/
def opArr (c : Cpu) (m : Byte) : Cpu :=
  let r := (ror (c.a &&& m) c.p.c).1
  let c' := (c.setA r).setZN r
  c'.setP { c'.p with c := bit r 6, v := bit r 6 ^^ bit r 5 }
/-- SBX (R342): the incoming carry and V play no part. -/
def opSbx (c : Cpu) (m : Byte) : Cpu :=
  let t := c.a &&& c.x
  ((c.setX (t - m)).setZN (t - m)).setC (decide (m.toNat ≤ t.toNat))
/-- LAS (R354). -/
def opLas (c : Cpu) (m : Byte) : Cpu :=
  let r := m &&& c.sp
  (((c.setA r).setX r).setSp r).setZN r
/-- ANE (R355), with the free value `ANE_MAGIC` (notes/assumptions/6.md). -/
def opAne (c : Cpu) (m : Byte) : Cpu :=
  let r := (c.a ||| Config.aneMagic) &&& c.x &&& m
  (c.setA r).setZN r
/-- LXA (R356), with the free value `LXA_MAGIC` (notes/assumptions/6.md). -/
def opLxa (c : Cpu) (m : Byte) : Cpu :=
  let r := (c.a ||| Config.lxaMagic) &&& m
  ((c.setA r).setX r).setZN r

/-! ### Operations of the read-modify-write class: the byte written back and the register file after -/

/-- A shift's flags: C from the shift, Z and N from the result (R260). -/
def shiftFlags (c : Cpu) (r : Byte × Bool) : Cpu := (c.setC r.2).setZN r.1

/-- ASL (R261). -/
def opAsl (c : Cpu) (m : Byte) : Byte × Cpu := ((asl m).1, shiftFlags c (asl m))
/-- LSR (R262). -/
def opLsr (c : Cpu) (m : Byte) : Byte × Cpu := ((lsr m).1, shiftFlags c (lsr m))
/-- ROL (R263). -/
def opRol (c : Cpu) (m : Byte) : Byte × Cpu := ((rol m c.p.c).1, shiftFlags c (rol m c.p.c))
/-- ROR (R264). -/
def opRor (c : Cpu) (m : Byte) : Byte × Cpu := ((ror m c.p.c).1, shiftFlags c (ror m c.p.c))
/-- INC (R240). -/
def opInc (c : Cpu) (m : Byte) : Byte × Cpu := (m + 1, c.setZN (m + 1))
/-- DEC (R241). -/
def opDec (c : Cpu) (m : Byte) : Byte × Cpu := (m - 1, c.setZN (m - 1))
/-- DCP (R333). -/
def opDcp (c : Cpu) (m : Byte) : Byte × Cpu := (m - 1, compare c c.a (m - 1))
/-- ISB (R334). -/
def opIsb (c : Cpu) (m : Byte) : Byte × Cpu := (m + 1, subtractWithBorrow c (m + 1))
/-- SLO (R335). -/
def opSlo (c : Cpu) (m : Byte) : Byte × Cpu := ((asl m).1, opOra (c.setC (asl m).2) (asl m).1)
/-- RLA (R336). -/
def opRla (c : Cpu) (m : Byte) : Byte × Cpu := ((rol m c.p.c).1, opAnd (c.setC (rol m c.p.c).2) (rol m c.p.c).1)
/-- SRE (R337). -/
def opSre (c : Cpu) (m : Byte) : Byte × Cpu := ((lsr m).1, opEor (c.setC (lsr m).2) (lsr m).1)
/-- RRA (R338): the carry of the rotate is the carry into the addition. -/
def opRra (c : Cpu) (m : Byte) : Byte × Cpu := ((ror m c.p.c).1, addWithCarry (c.setC (ror m c.p.c).2) (ror m c.p.c).1)

/-! ### Operations of the implied mode -/

/-- TAX (R207). -/
def opTax (c : Cpu) : Cpu := (c.setX c.a).setZN c.a
/-- TAY (R208). -/
def opTay (c : Cpu) : Cpu := (c.setY c.a).setZN c.a
/-- TXA (R209). -/
def opTxa (c : Cpu) : Cpu := (c.setA c.x).setZN c.x
/-- TYA (R210). -/
def opTya (c : Cpu) : Cpu := (c.setA c.y).setZN c.y
/-- TSX (R211). -/
def opTsx (c : Cpu) : Cpu := (c.setX c.sp).setZN c.sp
/-- TXS (R212): no flag changes. -/
def opTxs (c : Cpu) : Cpu := c.setSp c.x
/-- INX (R242). -/
def opInx (c : Cpu) : Cpu := (c.setX (c.x + 1)).setZN (c.x + 1)
/-- INY (R243). -/
def opIny (c : Cpu) : Cpu := (c.setY (c.y + 1)).setZN (c.y + 1)
/-- DEX (R244). -/
def opDex (c : Cpu) : Cpu := (c.setX (c.x - 1)).setZN (c.x - 1)
/-- DEY (R245). -/
def opDey (c : Cpu) : Cpu := (c.setY (c.y - 1)).setZN (c.y - 1)
/-- CLC (R315). -/
def opClc (c : Cpu) : Cpu := c.setC false
/-- SEC (R316). -/
def opSec (c : Cpu) : Cpu := c.setC true
/-- CLI (R317). -/
def opCli (c : Cpu) : Cpu := c.setP { c.p with i := false }
/-- SEI (R318). -/
def opSei (c : Cpu) : Cpu := c.setP { c.p with i := true }
/-- CLD (R319). -/
def opCld (c : Cpu) : Cpu := c.setP { c.p with d := false }
/-- SED (R320). -/
def opSed (c : Cpu) : Cpu := c.setP { c.p with d := true }
/-- CLV (R321). -/
def opClv (c : Cpu) : Cpu := c.setP { c.p with v := false }
/-- NOP (R322, R344). -/
def opImpliedNop (c : Cpu) : Cpu := c

/-! ### Bytes of the write class -/

/-- The byte SAX stores (R332). -/
def saxByte (c : Cpu) : Byte := c.a &&& c.x
/-- The byte SHA stores, `H` the high byte of the un-indexed base (R350). -/
def shaByte (c : Cpu) (h : Byte) : Byte := c.a &&& c.x &&& (h + 1)
/-- The byte SHX stores (R351). -/
def shxByte (c : Cpu) (h : Byte) : Byte := c.x &&& (h + 1)
/-- The byte SHY stores (R352). -/
def shyByte (c : Cpu) (h : Byte) : Byte := c.y &&& (h + 1)
/-- The byte TAS stores, after SP has become A AND X (R353). -/
def tasByte (c : Cpu) (h : Byte) : Byte := (c.a &&& c.x) &&& (h + 1)

end Sys2Proof.Machine
end

