-- ==== Sys2Proof/Machine/Operands.lean ====
section
/-! DEFINITION. The thirteen addressing modes and the access patterns of the instruction classes
(spec/40_addressing_modes.md R173 to R189). The operand bytes of an instruction are fetched before its meaning runs
(`fetchInstr` in Machine/Step.lean), in the order R187 gives; the immediate operand byte is that fetch itself (R175, R186). -/

namespace Sys2Proof.Machine

/-- What `Resolve` yields: the effective address, whether the page was crossed, and the high byte of the un-indexed base, which
only R350 to R353 read. -/
structure Resolved where
  /-- `ea` -/
  ea      : Word
  /-- `crossed` -/
  crossed : Bool
  /-- `H` of R350 -/
  baseHi  : Byte
deriving DecidableEq, Repr

/-- `MemRead` for its side effects only: a dummy read (R184). -/
def dummyRead (addr : Word) (s : State) : State := (memRead addr s).2

/-- zeropage (R176). -/
def zeropage (d : Byte) : Word := zext d

/-- zeropage_x and zeropage_y: the sum wraps inside page zero (R177, R178). -/
def zeropageIndexed (d idx : Byte) : Word := zext (d + idx)

/-- The indexed address of a base: `ea`, `crossed` and the base's high byte (R180, R183). -/
def indexed (base : Word) (idx : Byte) : Resolved where
  ea := base + zext idx
  crossed := decide (hi (base + zext idx) ≠ hi base)
  baseHi := hi base

/-- The address before the carry into the high byte, `wrong` (R180, R183). -/
def uncarried (base : Word) (idx : Byte) : Word := word (hi base) (lo base + idx)

/-- The normal variant: a dummy read at the uncarried address when the page is crossed (R180, R183). -/
def indexNormal (base : Word) (idx : Byte) (s : State) : Resolved × State :=
  let r := indexed base idx
  (r, if r.crossed then dummyRead (uncarried base idx) s else s)

/-- The forced variant: the dummy read is always made (R180, R183). -/
def indexForced (base : Word) (idx : Byte) (s : State) : Resolved × State :=
  (indexed base idx, dummyRead (uncarried base idx) s)

/-- The word behind a zero-page pointer: low byte at `p`, high byte at `p + 1` inside page zero (R182, R183). -/
def zeropagePointer (p : Byte) (s : State) : Word × State :=
  let l := memRead (zext p) s
  let h := memRead (zext (p + 1)) l.2
  (word h.1 l.1, h.2)

/-- indirect_x (R182). -/
def indirectX (d : Byte) (s : State) : Word × State := zeropagePointer (d + s.cpu.x) s

/-- indirect_y, normal variant (R183). -/
def indirectYNormal (d : Byte) (s : State) : Resolved × State :=
  let b := zeropagePointer d s
  indexNormal b.1 b.2.cpu.y b.2

/-- indirect_y, forced variant (R183). -/
def indirectYForced (d : Byte) (s : State) : Resolved × State :=
  let b := zeropagePointer d s
  indexForced b.1 b.2.cpu.y b.2

/-- indirect (JMP only): the high byte of the pointer is not incremented (R181). -/
def indirect (ptr : Word) (s : State) : Word × State :=
  let l := memRead ptr s
  let h := memRead (word (hi ptr) (lo ptr + 1)) l.2
  (word h.1 l.1, h.2)

/-- The target of a branch at `pc` with displacement `d` (R185). -/
def branchTarget (pc : Word) (d : Byte) : Word := pc + 2 + sext d

/-- A branch target on another page than the next instruction (R185). -/
def branchCrossed (pc : Word) (d : Byte) : Bool := decide (hi (branchTarget pc d) ≠ hi (pc + 2))

/-! ### Access patterns (R186, R188, R189) -/

/-- Read class, immediate mode. -/
def immediate (base : Nat) (f : Cpu → Byte → Cpu) (d : Byte) (s : State) : Result :=
  finish 2 base (s.setCpu (f s.cpu d))

/-- Read class at an address: one data read, then the operation. -/
def readAt (ea : Word) (f : Cpu → Byte → Cpu) (s : State) : State :=
  let m := memRead ea s
  m.2.setCpu (f m.2.cpu m.1)

/-- Read class in a mode that cannot cross a page. -/
def readInstr (len base : Nat) (f : Cpu → Byte → Cpu) (ea : Word) (s : State) : Result :=
  finish len base (readAt ea f s)

/-- Read class in a normal indexed mode: one more cycle on a page cross (R188). -/
def readIndexed (len base : Nat) (f : Cpu → Byte → Cpu) (r : Resolved × State) : Result :=
  finish len (base + bitNat r.1.crossed) (readAt r.1.ea f r.2)

/-- Write class: no data read, one write, no page cycle. -/
def writeInstr (len base : Nat) (ea : Word) (v : Byte) (s : State) : Result := finish len base (memWrite ea v s)

/-- Read-modify-write class at an address: one read, then one write of the new byte. -/
def modifyAt (ea : Word) (f : Cpu → Byte → Byte × Cpu) (s : State) : State :=
  let m := memRead ea s
  let r := f m.2.cpu m.1
  (memWrite ea r.1 m.2).setCpu r.2

/-- Read-modify-write class: no page cycle. -/
def modifyInstr (len base : Nat) (f : Cpu → Byte → Byte × Cpu) (ea : Word) (s : State) : Result :=
  finish len base (modifyAt ea f s)

/-- Read-modify-write class, accumulator mode: the operand is A and the result goes to A (R186, R260). -/
def modifyAccumulator (f : Cpu → Byte → Byte × Cpu) (s : State) : Result :=
  let r := f s.cpu s.cpu.a
  finish 1 2 (s.setCpu (r.2.setA r.1))

/-- Implied-mode instruction on the register file alone: one byte, two cycles. -/
def impliedInstr (f : Cpu → Cpu) (s : State) : Result := finish 1 2 (s.setCpu (f s.cpu))

/-- A conditional branch (R185, R286): 2 cycles, one more when taken, one more when the taken branch crosses a page. -/
def branch (cond : Bool) (d : Byte) (s : State) : Result :=
  if cond then
    finishJump (2 + (1 + bitNat (branchCrossed s.cpu.pc d))) (s.setCpu (s.cpu.setPc (branchTarget s.cpu.pc d)))
  else finish 2 2 s

/-- The address SHA, SHX, SHY and TAS store to: on a page cross the stored byte replaces the high address byte (R350). -/
def unstableTarget (r : Resolved) (v : Byte) : Word := if r.crossed then word v (lo r.ea) else r.ea

/-- SHA, SHX and SHY: the byte is a function of the registers and the base's high byte (R350 to R352). -/
def unstableStore (len base : Nat) (f : Cpu → Byte → Byte) (r : Resolved × State) : Result :=
  let v := f r.2.cpu r.1.baseHi
  finish len base (memWrite (unstableTarget r.1 v) v r.2)

end Sys2Proof.Machine
end

