-- ==== Sys2Proof/Machine/Alu.lean ====
section
/-! DEFINITION. The arithmetic, logic, compare, bit-test, increment and decrement instructions (spec/42_arithmetic_logic.md): one definition for each opcode-table row, over the shared
operations. The numbers are the row's length and base cycle count (30_encoding.md R145). -/

namespace Sys2Proof.Machine

/-! ### ADC -/

/-- 0x61 ADC, indirect_x (R231). -/
def execAdcIndirectX (d : Byte) (s : State) : Result := readInstr 2 6 opAdc (indirectX d s).1 (indirectX d s).2

/-- 0x65 ADC, zeropage (R231). -/
def execAdcZeropage (d : Byte) (s : State) : Result := readInstr 2 3 opAdc (zeropage d) s

/-- 0x69 ADC, immediate (R231). -/
def execAdcImmediate (d : Byte) (s : State) : Result := immediate 2 opAdc d s

/-- 0x6D ADC, absolute (R231). -/
def execAdcAbsolute (w : Word) (s : State) : Result := readInstr 3 4 opAdc w s

/-- 0x71 ADC, indirect_y (R231). -/
def execAdcIndirectY (d : Byte) (s : State) : Result := readIndexed 2 5 opAdc (indirectYNormal d s)

/-- 0x75 ADC, zeropage_x (R231). -/
def execAdcZeropageX (d : Byte) (s : State) : Result := readInstr 2 4 opAdc (zeropageIndexed d s.cpu.x) s

/-- 0x79 ADC, absolute_y (R231). -/
def execAdcAbsoluteY (w : Word) (s : State) : Result := readIndexed 3 4 opAdc (indexNormal w s.cpu.y s)

/-- 0x7D ADC, absolute_x (R231). -/
def execAdcAbsoluteX (w : Word) (s : State) : Result := readIndexed 3 4 opAdc (indexNormal w s.cpu.x s)

/-! ### SBC -/

/-- 0xE1 SBC, indirect_x (R232). -/
def execSbcIndirectX (d : Byte) (s : State) : Result := readInstr 2 6 opSbc (indirectX d s).1 (indirectX d s).2

/-- 0xE5 SBC, zeropage (R232). -/
def execSbcZeropage (d : Byte) (s : State) : Result := readInstr 2 3 opSbc (zeropage d) s

/-- 0xE9 SBC, immediate (R232). -/
def execSbcImmediate (d : Byte) (s : State) : Result := immediate 2 opSbc d s

/-- 0xED SBC, absolute (R232). -/
def execSbcAbsolute (w : Word) (s : State) : Result := readInstr 3 4 opSbc w s

/-- 0xF1 SBC, indirect_y (R232). -/
def execSbcIndirectY (d : Byte) (s : State) : Result := readIndexed 2 5 opSbc (indirectYNormal d s)

/-- 0xF5 SBC, zeropage_x (R232). -/
def execSbcZeropageX (d : Byte) (s : State) : Result := readInstr 2 4 opSbc (zeropageIndexed d s.cpu.x) s

/-- 0xF9 SBC, absolute_y (R232). -/
def execSbcAbsoluteY (w : Word) (s : State) : Result := readIndexed 3 4 opSbc (indexNormal w s.cpu.y s)

/-- 0xFD SBC, absolute_x (R232). -/
def execSbcAbsoluteX (w : Word) (s : State) : Result := readIndexed 3 4 opSbc (indexNormal w s.cpu.x s)

/-! ### AND -/

/-- 0x21 AND, indirect_x (R233). -/
def execAndIndirectX (d : Byte) (s : State) : Result := readInstr 2 6 opAnd (indirectX d s).1 (indirectX d s).2

/-- 0x25 AND, zeropage (R233). -/
def execAndZeropage (d : Byte) (s : State) : Result := readInstr 2 3 opAnd (zeropage d) s

/-- 0x29 AND, immediate (R233). -/
def execAndImmediate (d : Byte) (s : State) : Result := immediate 2 opAnd d s

/-- 0x2D AND, absolute (R233). -/
def execAndAbsolute (w : Word) (s : State) : Result := readInstr 3 4 opAnd w s

/-- 0x31 AND, indirect_y (R233). -/
def execAndIndirectY (d : Byte) (s : State) : Result := readIndexed 2 5 opAnd (indirectYNormal d s)

/-- 0x35 AND, zeropage_x (R233). -/
def execAndZeropageX (d : Byte) (s : State) : Result := readInstr 2 4 opAnd (zeropageIndexed d s.cpu.x) s

/-- 0x39 AND, absolute_y (R233). -/
def execAndAbsoluteY (w : Word) (s : State) : Result := readIndexed 3 4 opAnd (indexNormal w s.cpu.y s)

/-- 0x3D AND, absolute_x (R233). -/
def execAndAbsoluteX (w : Word) (s : State) : Result := readIndexed 3 4 opAnd (indexNormal w s.cpu.x s)

/-! ### ORA -/

/-- 0x01 ORA, indirect_x (R234). -/
def execOraIndirectX (d : Byte) (s : State) : Result := readInstr 2 6 opOra (indirectX d s).1 (indirectX d s).2

/-- 0x05 ORA, zeropage (R234). -/
def execOraZeropage (d : Byte) (s : State) : Result := readInstr 2 3 opOra (zeropage d) s

/-- 0x09 ORA, immediate (R234). -/
def execOraImmediate (d : Byte) (s : State) : Result := immediate 2 opOra d s

/-- 0x0D ORA, absolute (R234). -/
def execOraAbsolute (w : Word) (s : State) : Result := readInstr 3 4 opOra w s

/-- 0x11 ORA, indirect_y (R234). -/
def execOraIndirectY (d : Byte) (s : State) : Result := readIndexed 2 5 opOra (indirectYNormal d s)

/-- 0x15 ORA, zeropage_x (R234). -/
def execOraZeropageX (d : Byte) (s : State) : Result := readInstr 2 4 opOra (zeropageIndexed d s.cpu.x) s

/-- 0x19 ORA, absolute_y (R234). -/
def execOraAbsoluteY (w : Word) (s : State) : Result := readIndexed 3 4 opOra (indexNormal w s.cpu.y s)

/-- 0x1D ORA, absolute_x (R234). -/
def execOraAbsoluteX (w : Word) (s : State) : Result := readIndexed 3 4 opOra (indexNormal w s.cpu.x s)

/-! ### EOR -/

/-- 0x41 EOR, indirect_x (R235). -/
def execEorIndirectX (d : Byte) (s : State) : Result := readInstr 2 6 opEor (indirectX d s).1 (indirectX d s).2

/-- 0x45 EOR, zeropage (R235). -/
def execEorZeropage (d : Byte) (s : State) : Result := readInstr 2 3 opEor (zeropage d) s

/-- 0x49 EOR, immediate (R235). -/
def execEorImmediate (d : Byte) (s : State) : Result := immediate 2 opEor d s

/-- 0x4D EOR, absolute (R235). -/
def execEorAbsolute (w : Word) (s : State) : Result := readInstr 3 4 opEor w s

/-- 0x51 EOR, indirect_y (R235). -/
def execEorIndirectY (d : Byte) (s : State) : Result := readIndexed 2 5 opEor (indirectYNormal d s)

/-- 0x55 EOR, zeropage_x (R235). -/
def execEorZeropageX (d : Byte) (s : State) : Result := readInstr 2 4 opEor (zeropageIndexed d s.cpu.x) s

/-- 0x59 EOR, absolute_y (R235). -/
def execEorAbsoluteY (w : Word) (s : State) : Result := readIndexed 3 4 opEor (indexNormal w s.cpu.y s)

/-- 0x5D EOR, absolute_x (R235). -/
def execEorAbsoluteX (w : Word) (s : State) : Result := readIndexed 3 4 opEor (indexNormal w s.cpu.x s)

/-! ### CMP -/

/-- 0xC1 CMP, indirect_x (R236). -/
def execCmpIndirectX (d : Byte) (s : State) : Result := readInstr 2 6 opCmp (indirectX d s).1 (indirectX d s).2

/-- 0xC5 CMP, zeropage (R236). -/
def execCmpZeropage (d : Byte) (s : State) : Result := readInstr 2 3 opCmp (zeropage d) s

/-- 0xC9 CMP, immediate (R236). -/
def execCmpImmediate (d : Byte) (s : State) : Result := immediate 2 opCmp d s

/-- 0xCD CMP, absolute (R236). -/
def execCmpAbsolute (w : Word) (s : State) : Result := readInstr 3 4 opCmp w s

/-- 0xD1 CMP, indirect_y (R236). -/
def execCmpIndirectY (d : Byte) (s : State) : Result := readIndexed 2 5 opCmp (indirectYNormal d s)

/-- 0xD5 CMP, zeropage_x (R236). -/
def execCmpZeropageX (d : Byte) (s : State) : Result := readInstr 2 4 opCmp (zeropageIndexed d s.cpu.x) s

/-- 0xD9 CMP, absolute_y (R236). -/
def execCmpAbsoluteY (w : Word) (s : State) : Result := readIndexed 3 4 opCmp (indexNormal w s.cpu.y s)

/-- 0xDD CMP, absolute_x (R236). -/
def execCmpAbsoluteX (w : Word) (s : State) : Result := readIndexed 3 4 opCmp (indexNormal w s.cpu.x s)

/-! ### CPX -/

/-- 0xE0 CPX, immediate (R237). -/
def execCpxImmediate (d : Byte) (s : State) : Result := immediate 2 opCpx d s

/-- 0xE4 CPX, zeropage (R237). -/
def execCpxZeropage (d : Byte) (s : State) : Result := readInstr 2 3 opCpx (zeropage d) s

/-- 0xEC CPX, absolute (R237). -/
def execCpxAbsolute (w : Word) (s : State) : Result := readInstr 3 4 opCpx w s

/-! ### CPY -/

/-- 0xC0 CPY, immediate (R238). -/
def execCpyImmediate (d : Byte) (s : State) : Result := immediate 2 opCpy d s

/-- 0xC4 CPY, zeropage (R238). -/
def execCpyZeropage (d : Byte) (s : State) : Result := readInstr 2 3 opCpy (zeropage d) s

/-- 0xCC CPY, absolute (R238). -/
def execCpyAbsolute (w : Word) (s : State) : Result := readInstr 3 4 opCpy w s

/-! ### BIT -/

/-- 0x24 BIT, zeropage (R239). -/
def execBitZeropage (d : Byte) (s : State) : Result := readInstr 2 3 opBit (zeropage d) s

/-- 0x2C BIT, absolute (R239). -/
def execBitAbsolute (w : Word) (s : State) : Result := readInstr 3 4 opBit w s

/-! ### INC -/

/-- 0xE6 INC, zeropage (R240). -/
def execIncZeropage (d : Byte) (s : State) : Result := modifyInstr 2 5 opInc (zeropage d) s

/-- 0xEE INC, absolute (R240). -/
def execIncAbsolute (w : Word) (s : State) : Result := modifyInstr 3 6 opInc w s

/-- 0xF6 INC, zeropage_x (R240). -/
def execIncZeropageX (d : Byte) (s : State) : Result := modifyInstr 2 6 opInc (zeropageIndexed d s.cpu.x) s

/-- 0xFE INC, absolute_x (R240). -/
def execIncAbsoluteX (w : Word) (s : State) : Result :=
  modifyInstr 3 7 opInc (indexForced w s.cpu.x s).1.ea (indexForced w s.cpu.x s).2

/-! ### DEC -/

/-- 0xC6 DEC, zeropage (R241). -/
def execDecZeropage (d : Byte) (s : State) : Result := modifyInstr 2 5 opDec (zeropage d) s

/-- 0xCE DEC, absolute (R241). -/
def execDecAbsolute (w : Word) (s : State) : Result := modifyInstr 3 6 opDec w s

/-- 0xD6 DEC, zeropage_x (R241). -/
def execDecZeropageX (d : Byte) (s : State) : Result := modifyInstr 2 6 opDec (zeropageIndexed d s.cpu.x) s

/-- 0xDE DEC, absolute_x (R241). -/
def execDecAbsoluteX (w : Word) (s : State) : Result :=
  modifyInstr 3 7 opDec (indexForced w s.cpu.x s).1.ea (indexForced w s.cpu.x s).2

/-! ### INX -/

/-- 0xE8 INX, implied (R242). -/
def execInx (s : State) : Result := impliedInstr opInx s

/-! ### INY -/

/-- 0xC8 INY, implied (R243). -/
def execIny (s : State) : Result := impliedInstr opIny s

/-! ### DEX -/

/-- 0xCA DEX, implied (R244). -/
def execDex (s : State) : Result := impliedInstr opDex s

/-! ### DEY -/

/-- 0x88 DEY, implied (R245). -/
def execDey (s : State) : Result := impliedInstr opDey s

end Sys2Proof.Machine
end

