-- ==== Sys2Proof/Machine/Control.lean ====
section
/-! DEFINITION. The control-flow instructions (spec/44_control_flow.md): one definition for each opcode-table row, over the shared
operations. The numbers are the row's length and base cycle count (30_encoding.md R145). -/

namespace Sys2Proof.Machine

/-! ### JMP -/

/-- 0x4C JMP, absolute (R281). -/
def execJmpAbsolute (w : Word) (s : State) : Result := finishJump 3 (s.setCpu (s.cpu.setPc w))

/-- 0x6C JMP, indirect (R281). -/
def execJmpIndirect (w : Word) (s : State) : Result :=
  let t := indirect w s
  finishJump 5 (t.2.setCpu (t.2.cpu.setPc t.1))

/-! ### JSR -/

/-- 0x20 JSR, absolute (R282). -/
def execJsr (w : Word) (s : State) : Result :=
  let s := pushWord (s.cpu.pc + 2) s
  finishJump 6 (s.setCpu (s.cpu.setPc w))

/-! ### RTS -/

/-- 0x60 RTS, implied (R283). -/
def execRts (s : State) : Result :=
  let w := popWord s
  finishJump 6 (w.2.setCpu (w.2.cpu.setPc (w.1 + 1)))

/-! ### RTI -/

/-- 0x40 RTI, implied (R284). -/
def execRti (s : State) : Result := finishJump 6 (returnFromInterrupt s)

/-! ### BRK -/

/-- 0x00 BRK, implied (R285). -/
def execBrk (s : State) : Result := finishJump 7 (enterInterrupt (s.cpu.pc + 2) true Config.irqVector s)

/-! ### BPL -/

/-- 0x10 BPL, relative (R287). -/
def execBpl (d : Byte) (s : State) : Result := branch (!s.cpu.p.n) d s

/-! ### BMI -/

/-- 0x30 BMI, relative (R288). -/
def execBmi (d : Byte) (s : State) : Result := branch s.cpu.p.n d s

/-! ### BVC -/

/-- 0x50 BVC, relative (R289). -/
def execBvc (d : Byte) (s : State) : Result := branch (!s.cpu.p.v) d s

/-! ### BVS -/

/-- 0x70 BVS, relative (R290). -/
def execBvs (d : Byte) (s : State) : Result := branch s.cpu.p.v d s

/-! ### BCC -/

/-- 0x90 BCC, relative (R291). -/
def execBcc (d : Byte) (s : State) : Result := branch (!s.cpu.p.c) d s

/-! ### BCS -/

/-- 0xB0 BCS, relative (R292). -/
def execBcs (d : Byte) (s : State) : Result := branch s.cpu.p.c d s

/-! ### BNE -/

/-- 0xD0 BNE, relative (R293). -/
def execBne (d : Byte) (s : State) : Result := branch (!s.cpu.p.z) d s

/-! ### BEQ -/

/-- 0xF0 BEQ, relative (R294). -/
def execBeq (d : Byte) (s : State) : Result := branch s.cpu.p.z d s

end Sys2Proof.Machine
end

