-- ==== Sys2Proof/Machine/LoadStore.lean ====
section
/-! DEFINITION. The load, store and register-transfer instructions (spec/41_load_store_transfer.md): one definition for each opcode-table row, over the shared
operations. The numbers are the row's length and base cycle count (30_encoding.md R145). -/

namespace Sys2Proof.Machine

/-! ### LDA -/

/-- 0xA1 LDA, indirect_x (R201). -/
def execLdaIndirectX (d : Byte) (s : State) : Result := readInstr 2 6 opLda (indirectX d s).1 (indirectX d s).2

/-- 0xA5 LDA, zeropage (R201). -/
def execLdaZeropage (d : Byte) (s : State) : Result := readInstr 2 3 opLda (zeropage d) s

/-- 0xA9 LDA, immediate (R201). -/
def execLdaImmediate (d : Byte) (s : State) : Result := immediate 2 opLda d s

/-- 0xAD LDA, absolute (R201). -/
def execLdaAbsolute (w : Word) (s : State) : Result := readInstr 3 4 opLda w s

/-- 0xB1 LDA, indirect_y (R201). -/
def execLdaIndirectY (d : Byte) (s : State) : Result := readIndexed 2 5 opLda (indirectYNormal d s)

/-- 0xB5 LDA, zeropage_x (R201). -/
def execLdaZeropageX (d : Byte) (s : State) : Result := readInstr 2 4 opLda (zeropageIndexed d s.cpu.x) s

/-- 0xB9 LDA, absolute_y (R201). -/
def execLdaAbsoluteY (w : Word) (s : State) : Result := readIndexed 3 4 opLda (indexNormal w s.cpu.y s)

/-- 0xBD LDA, absolute_x (R201). -/
def execLdaAbsoluteX (w : Word) (s : State) : Result := readIndexed 3 4 opLda (indexNormal w s.cpu.x s)

/-! ### LDX -/

/-- 0xA2 LDX, immediate (R202). -/
def execLdxImmediate (d : Byte) (s : State) : Result := immediate 2 opLdx d s

/-- 0xA6 LDX, zeropage (R202). -/
def execLdxZeropage (d : Byte) (s : State) : Result := readInstr 2 3 opLdx (zeropage d) s

/-- 0xAE LDX, absolute (R202). -/
def execLdxAbsolute (w : Word) (s : State) : Result := readInstr 3 4 opLdx w s

/-- 0xB6 LDX, zeropage_y (R202). -/
def execLdxZeropageY (d : Byte) (s : State) : Result := readInstr 2 4 opLdx (zeropageIndexed d s.cpu.y) s

/-- 0xBE LDX, absolute_y (R202). -/
def execLdxAbsoluteY (w : Word) (s : State) : Result := readIndexed 3 4 opLdx (indexNormal w s.cpu.y s)

/-! ### LDY -/

/-- 0xA0 LDY, immediate (R203). -/
def execLdyImmediate (d : Byte) (s : State) : Result := immediate 2 opLdy d s

/-- 0xA4 LDY, zeropage (R203). -/
def execLdyZeropage (d : Byte) (s : State) : Result := readInstr 2 3 opLdy (zeropage d) s

/-- 0xAC LDY, absolute (R203). -/
def execLdyAbsolute (w : Word) (s : State) : Result := readInstr 3 4 opLdy w s

/-- 0xB4 LDY, zeropage_x (R203). -/
def execLdyZeropageX (d : Byte) (s : State) : Result := readInstr 2 4 opLdy (zeropageIndexed d s.cpu.x) s

/-- 0xBC LDY, absolute_x (R203). -/
def execLdyAbsoluteX (w : Word) (s : State) : Result := readIndexed 3 4 opLdy (indexNormal w s.cpu.x s)

/-! ### STA -/

/-- 0x81 STA, indirect_x (R204). -/
def execStaIndirectX (d : Byte) (s : State) : Result := writeInstr 2 6 (indirectX d s).1 s.cpu.a (indirectX d s).2

/-- 0x85 STA, zeropage (R204). -/
def execStaZeropage (d : Byte) (s : State) : Result := writeInstr 2 3 (zeropage d) s.cpu.a s

/-- 0x8D STA, absolute (R204). -/
def execStaAbsolute (w : Word) (s : State) : Result := writeInstr 3 4 w s.cpu.a s

/-- 0x91 STA, indirect_y (R204). -/
def execStaIndirectY (d : Byte) (s : State) : Result :=
  writeInstr 2 6 (indirectYForced d s).1.ea s.cpu.a (indirectYForced d s).2

/-- 0x95 STA, zeropage_x (R204). -/
def execStaZeropageX (d : Byte) (s : State) : Result := writeInstr 2 4 (zeropageIndexed d s.cpu.x) s.cpu.a s

/-- 0x99 STA, absolute_y (R204). -/
def execStaAbsoluteY (w : Word) (s : State) : Result :=
  writeInstr 3 5 (indexForced w s.cpu.y s).1.ea s.cpu.a (indexForced w s.cpu.y s).2

/-- 0x9D STA, absolute_x (R204). -/
def execStaAbsoluteX (w : Word) (s : State) : Result :=
  writeInstr 3 5 (indexForced w s.cpu.x s).1.ea s.cpu.a (indexForced w s.cpu.x s).2

/-! ### STX -/

/-- 0x86 STX, zeropage (R205). -/
def execStxZeropage (d : Byte) (s : State) : Result := writeInstr 2 3 (zeropage d) s.cpu.x s

/-- 0x8E STX, absolute (R205). -/
def execStxAbsolute (w : Word) (s : State) : Result := writeInstr 3 4 w s.cpu.x s

/-- 0x96 STX, zeropage_y (R205). -/
def execStxZeropageY (d : Byte) (s : State) : Result := writeInstr 2 4 (zeropageIndexed d s.cpu.y) s.cpu.x s

/-! ### STY -/

/-- 0x84 STY, zeropage (R206). -/
def execStyZeropage (d : Byte) (s : State) : Result := writeInstr 2 3 (zeropage d) s.cpu.y s

/-- 0x8C STY, absolute (R206). -/
def execStyAbsolute (w : Word) (s : State) : Result := writeInstr 3 4 w s.cpu.y s

/-- 0x94 STY, zeropage_x (R206). -/
def execStyZeropageX (d : Byte) (s : State) : Result := writeInstr 2 4 (zeropageIndexed d s.cpu.x) s.cpu.y s

/-! ### TAX -/

/-- 0xAA TAX, implied (R207). -/
def execTax (s : State) : Result := impliedInstr opTax s

/-! ### TAY -/

/-- 0xA8 TAY, implied (R208). -/
def execTay (s : State) : Result := impliedInstr opTay s

/-! ### TXA -/

/-- 0x8A TXA, implied (R209). -/
def execTxa (s : State) : Result := impliedInstr opTxa s

/-! ### TYA -/

/-- 0x98 TYA, implied (R210). -/
def execTya (s : State) : Result := impliedInstr opTya s

/-! ### TSX -/

/-- 0xBA TSX, implied (R211). -/
def execTsx (s : State) : Result := impliedInstr opTsx s

/-! ### TXS -/

/-- 0x9A TXS, implied (R212). -/
def execTxs (s : State) : Result := impliedInstr opTxs s

end Sys2Proof.Machine
end

