-- ==== Sys2Proof/Machine/Shift.lean ====
section
/-! DEFINITION. The shift and rotate instructions (spec/43_shift_rotate.md): one definition for each opcode-table row, over the shared
operations. The numbers are the row's length and base cycle count (30_encoding.md R145). -/

namespace Sys2Proof.Machine

/-! ### ASL -/

/-- 0x06 ASL, zeropage (R261). -/
def execAslZeropage (d : Byte) (s : State) : Result := modifyInstr 2 5 opAsl (zeropage d) s

/-- 0x0A ASL, accumulator (R261). -/
def execAslAccumulator (s : State) : Result := modifyAccumulator opAsl s

/-- 0x0E ASL, absolute (R261). -/
def execAslAbsolute (w : Word) (s : State) : Result := modifyInstr 3 6 opAsl w s

/-- 0x16 ASL, zeropage_x (R261). -/
def execAslZeropageX (d : Byte) (s : State) : Result := modifyInstr 2 6 opAsl (zeropageIndexed d s.cpu.x) s

/-- 0x1E ASL, absolute_x (R261). -/
def execAslAbsoluteX (w : Word) (s : State) : Result :=
  modifyInstr 3 7 opAsl (indexForced w s.cpu.x s).1.ea (indexForced w s.cpu.x s).2

/-! ### LSR -/

/-- 0x46 LSR, zeropage (R262). -/
def execLsrZeropage (d : Byte) (s : State) : Result := modifyInstr 2 5 opLsr (zeropage d) s

/-- 0x4A LSR, accumulator (R262). -/
def execLsrAccumulator (s : State) : Result := modifyAccumulator opLsr s

/-- 0x4E LSR, absolute (R262). -/
def execLsrAbsolute (w : Word) (s : State) : Result := modifyInstr 3 6 opLsr w s

/-- 0x56 LSR, zeropage_x (R262). -/
def execLsrZeropageX (d : Byte) (s : State) : Result := modifyInstr 2 6 opLsr (zeropageIndexed d s.cpu.x) s

/-- 0x5E LSR, absolute_x (R262). -/
def execLsrAbsoluteX (w : Word) (s : State) : Result :=
  modifyInstr 3 7 opLsr (indexForced w s.cpu.x s).1.ea (indexForced w s.cpu.x s).2

/-! ### ROL -/

/-- 0x26 ROL, zeropage (R263). -/
def execRolZeropage (d : Byte) (s : State) : Result := modifyInstr 2 5 opRol (zeropage d) s

/-- 0x2A ROL, accumulator (R263). -/
def execRolAccumulator (s : State) : Result := modifyAccumulator opRol s

/-- 0x2E ROL, absolute (R263). -/
def execRolAbsolute (w : Word) (s : State) : Result := modifyInstr 3 6 opRol w s

/-- 0x36 ROL, zeropage_x (R263). -/
def execRolZeropageX (d : Byte) (s : State) : Result := modifyInstr 2 6 opRol (zeropageIndexed d s.cpu.x) s

/-- 0x3E ROL, absolute_x (R263). -/
def execRolAbsoluteX (w : Word) (s : State) : Result :=
  modifyInstr 3 7 opRol (indexForced w s.cpu.x s).1.ea (indexForced w s.cpu.x s).2

/-! ### ROR -/

/-- 0x66 ROR, zeropage (R264). -/
def execRorZeropage (d : Byte) (s : State) : Result := modifyInstr 2 5 opRor (zeropage d) s

/-- 0x6A ROR, accumulator (R264). -/
def execRorAccumulator (s : State) : Result := modifyAccumulator opRor s

/-- 0x6E ROR, absolute (R264). -/
def execRorAbsolute (w : Word) (s : State) : Result := modifyInstr 3 6 opRor w s

/-- 0x76 ROR, zeropage_x (R264). -/
def execRorZeropageX (d : Byte) (s : State) : Result := modifyInstr 2 6 opRor (zeropageIndexed d s.cpu.x) s

/-- 0x7E ROR, absolute_x (R264). -/
def execRorAbsoluteX (w : Word) (s : State) : Result :=
  modifyInstr 3 7 opRor (indexForced w s.cpu.x s).1.ea (indexForced w s.cpu.x s).2

end Sys2Proof.Machine
end

