-- ==== Sys2Proof/Machine/Stack.lean ====
section
/-! DEFINITION. The stack, flag and no-operation instructions (spec/45_stack_flags_nop.md): one definition for each opcode-table row, over the shared
operations. The numbers are the row's length and base cycle count (30_encoding.md R145). -/

namespace Sys2Proof.Machine

/-! ### PHA -/

/-- 0x48 PHA, implied (R311). -/
def execPha (s : State) : Result := finish 1 3 (push s.cpu.a s)

/-! ### PLA -/

/-- 0x68 PLA, implied (R312). -/
def execPla (s : State) : Result :=
  let m := pop s
  finish 1 4 (m.2.setCpu (opLda m.2.cpu m.1))

/-! ### PHP -/

/-- 0x08 PHP, implied (R313). -/
def execPhp (s : State) : Result := finish 1 3 (push (s.cpu.p.toByte true) s)

/-! ### PLP -/

/-- 0x28 PLP, implied (R314). -/
def execPlp (s : State) : Result :=
  let m := pop s
  finish 1 4 (m.2.setCpu (m.2.cpu.setP (Flags.ofByte m.1)))

/-! ### CLC -/

/-- 0x18 CLC, implied (R315). -/
def execClc (s : State) : Result := impliedInstr opClc s

/-! ### SEC -/

/-- 0x38 SEC, implied (R316). -/
def execSec (s : State) : Result := impliedInstr opSec s

/-! ### CLI -/

/-- 0x58 CLI, implied (R317). -/
def execCli (s : State) : Result := impliedInstr opCli s

/-! ### SEI -/

/-- 0x78 SEI, implied (R318). -/
def execSei (s : State) : Result := impliedInstr opSei s

/-! ### CLD -/

/-- 0xD8 CLD, implied (R319). -/
def execCld (s : State) : Result := impliedInstr opCld s

/-! ### SED -/

/-- 0xF8 SED, implied (R320). -/
def execSed (s : State) : Result := impliedInstr opSed s

/-! ### CLV -/

/-- 0xB8 CLV, implied (R321). -/
def execClv (s : State) : Result := impliedInstr opClv s

/-! ### NOP -/

/-- 0xEA NOP, implied (R322). -/
def execNop (s : State) : Result := impliedInstr opImpliedNop s

end Sys2Proof.Machine
end

