-- ==== Sys2Proof/Machine/Undocumented.lean ====
section
/-! DEFINITION. The undocumented opcodes (spec/46_undocumented.md): one definition for each opcode-table row, over the shared
operations. The numbers are the row's length and base cycle count (30_encoding.md R145). -/

namespace Sys2Proof.Machine

/-! ### SBC -/

/-- 0xEB SBC, immediate (R343). -/
def execSbcImmediateEB (d : Byte) (s : State) : Result := immediate 2 opSbc d s

/-! ### NOP -/

/-- 0x04 NOP, zeropage (R346). -/
def execNopZeropage04 (d : Byte) (s : State) : Result := readInstr 2 3 opNop (zeropage d) s

/-- 0x0C NOP, absolute (R346). -/
def execNopAbsolute (w : Word) (s : State) : Result := readInstr 3 4 opNop w s

/-- 0x14 NOP, zeropage_x (R346). -/
def execNopZeropageX14 (d : Byte) (s : State) : Result := readInstr 2 4 opNop (zeropageIndexed d s.cpu.x) s

/-- 0x1A NOP, implied (R344). -/
def execNop1A (s : State) : Result := impliedInstr opImpliedNop s

/-- 0x1C NOP, absolute_x (R347). -/
def execNopAbsoluteX1C (w : Word) (s : State) : Result := readIndexed 3 4 opNop (indexNormal w s.cpu.x s)

/-- 0x34 NOP, zeropage_x (R346). -/
def execNopZeropageX34 (d : Byte) (s : State) : Result := readInstr 2 4 opNop (zeropageIndexed d s.cpu.x) s

/-- 0x3A NOP, implied (R344). -/
def execNop3A (s : State) : Result := impliedInstr opImpliedNop s

/-- 0x3C NOP, absolute_x (R347). -/
def execNopAbsoluteX3C (w : Word) (s : State) : Result := readIndexed 3 4 opNop (indexNormal w s.cpu.x s)

/-- 0x44 NOP, zeropage (R346). -/
def execNopZeropage44 (d : Byte) (s : State) : Result := readInstr 2 3 opNop (zeropage d) s

/-- 0x54 NOP, zeropage_x (R346). -/
def execNopZeropageX54 (d : Byte) (s : State) : Result := readInstr 2 4 opNop (zeropageIndexed d s.cpu.x) s

/-- 0x5A NOP, implied (R344). -/
def execNop5A (s : State) : Result := impliedInstr opImpliedNop s

/-- 0x5C NOP, absolute_x (R347). -/
def execNopAbsoluteX5C (w : Word) (s : State) : Result := readIndexed 3 4 opNop (indexNormal w s.cpu.x s)

/-- 0x64 NOP, zeropage (R346). -/
def execNopZeropage64 (d : Byte) (s : State) : Result := readInstr 2 3 opNop (zeropage d) s

/-- 0x74 NOP, zeropage_x (R346). -/
def execNopZeropageX74 (d : Byte) (s : State) : Result := readInstr 2 4 opNop (zeropageIndexed d s.cpu.x) s

/-- 0x7A NOP, implied (R344). -/
def execNop7A (s : State) : Result := impliedInstr opImpliedNop s

/-- 0x7C NOP, absolute_x (R347). -/
def execNopAbsoluteX7C (w : Word) (s : State) : Result := readIndexed 3 4 opNop (indexNormal w s.cpu.x s)

/-- 0x80 NOP, immediate (R345). -/
def execNopImmediate80 (d : Byte) (s : State) : Result := immediate 2 opNop d s

/-- 0x82 NOP, immediate (R345). -/
def execNopImmediate82 (d : Byte) (s : State) : Result := immediate 2 opNop d s

/-- 0x89 NOP, immediate (R345). -/
def execNopImmediate89 (d : Byte) (s : State) : Result := immediate 2 opNop d s

/-- 0xC2 NOP, immediate (R345). -/
def execNopImmediateC2 (d : Byte) (s : State) : Result := immediate 2 opNop d s

/-- 0xD4 NOP, zeropage_x (R346). -/
def execNopZeropageXD4 (d : Byte) (s : State) : Result := readInstr 2 4 opNop (zeropageIndexed d s.cpu.x) s

/-- 0xDA NOP, implied (R344). -/
def execNopDA (s : State) : Result := impliedInstr opImpliedNop s

/-- 0xDC NOP, absolute_x (R347). -/
def execNopAbsoluteXDC (w : Word) (s : State) : Result := readIndexed 3 4 opNop (indexNormal w s.cpu.x s)

/-- 0xE2 NOP, immediate (R345). -/
def execNopImmediateE2 (d : Byte) (s : State) : Result := immediate 2 opNop d s

/-- 0xF4 NOP, zeropage_x (R346). -/
def execNopZeropageXF4 (d : Byte) (s : State) : Result := readInstr 2 4 opNop (zeropageIndexed d s.cpu.x) s

/-- 0xFA NOP, implied (R344). -/
def execNopFA (s : State) : Result := impliedInstr opImpliedNop s

/-- 0xFC NOP, absolute_x (R347). -/
def execNopAbsoluteXFC (w : Word) (s : State) : Result := readIndexed 3 4 opNop (indexNormal w s.cpu.x s)

/-! ### LAX -/

/-- 0xA3 LAX, indirect_x (R331). -/
def execLaxIndirectX (d : Byte) (s : State) : Result := readInstr 2 6 opLax (indirectX d s).1 (indirectX d s).2

/-- 0xA7 LAX, zeropage (R331). -/
def execLaxZeropage (d : Byte) (s : State) : Result := readInstr 2 3 opLax (zeropage d) s

/-- 0xAF LAX, absolute (R331). -/
def execLaxAbsolute (w : Word) (s : State) : Result := readInstr 3 4 opLax w s

/-- 0xB3 LAX, indirect_y (R331). -/
def execLaxIndirectY (d : Byte) (s : State) : Result := readIndexed 2 5 opLax (indirectYNormal d s)

/-- 0xB7 LAX, zeropage_y (R331). -/
def execLaxZeropageY (d : Byte) (s : State) : Result := readInstr 2 4 opLax (zeropageIndexed d s.cpu.y) s

/-- 0xBF LAX, absolute_y (R331). -/
def execLaxAbsoluteY (w : Word) (s : State) : Result := readIndexed 3 4 opLax (indexNormal w s.cpu.y s)

/-! ### SAX -/

/-- 0x83 SAX, indirect_x (R332). -/
def execSaxIndirectX (d : Byte) (s : State) : Result := writeInstr 2 6 (indirectX d s).1 (saxByte s.cpu) (indirectX d s).2

/-- 0x87 SAX, zeropage (R332). -/
def execSaxZeropage (d : Byte) (s : State) : Result := writeInstr 2 3 (zeropage d) (saxByte s.cpu) s

/-- 0x8F SAX, absolute (R332). -/
def execSaxAbsolute (w : Word) (s : State) : Result := writeInstr 3 4 w (saxByte s.cpu) s

/-- 0x97 SAX, zeropage_y (R332). -/
def execSaxZeropageY (d : Byte) (s : State) : Result := writeInstr 2 4 (zeropageIndexed d s.cpu.y) (saxByte s.cpu) s

/-! ### DCP -/

/-- 0xC3 DCP, indirect_x (R333). -/
def execDcpIndirectX (d : Byte) (s : State) : Result := modifyInstr 2 8 opDcp (indirectX d s).1 (indirectX d s).2

/-- 0xC7 DCP, zeropage (R333). -/
def execDcpZeropage (d : Byte) (s : State) : Result := modifyInstr 2 5 opDcp (zeropage d) s

/-- 0xCF DCP, absolute (R333). -/
def execDcpAbsolute (w : Word) (s : State) : Result := modifyInstr 3 6 opDcp w s

/-- 0xD3 DCP, indirect_y (R333). -/
def execDcpIndirectY (d : Byte) (s : State) : Result := modifyInstr 2 8 opDcp (indirectYForced d s).1.ea (indirectYForced d s).2

/-- 0xD7 DCP, zeropage_x (R333). -/
def execDcpZeropageX (d : Byte) (s : State) : Result := modifyInstr 2 6 opDcp (zeropageIndexed d s.cpu.x) s

/-- 0xDB DCP, absolute_y (R333). -/
def execDcpAbsoluteY (w : Word) (s : State) : Result :=
  modifyInstr 3 7 opDcp (indexForced w s.cpu.y s).1.ea (indexForced w s.cpu.y s).2

/-- 0xDF DCP, absolute_x (R333). -/
def execDcpAbsoluteX (w : Word) (s : State) : Result :=
  modifyInstr 3 7 opDcp (indexForced w s.cpu.x s).1.ea (indexForced w s.cpu.x s).2

/-! ### ISB -/

/-- 0xE3 ISB, indirect_x (R334). -/
def execIsbIndirectX (d : Byte) (s : State) : Result := modifyInstr 2 8 opIsb (indirectX d s).1 (indirectX d s).2

/-- 0xE7 ISB, zeropage (R334). -/
def execIsbZeropage (d : Byte) (s : State) : Result := modifyInstr 2 5 opIsb (zeropage d) s

/-- 0xEF ISB, absolute (R334). -/
def execIsbAbsolute (w : Word) (s : State) : Result := modifyInstr 3 6 opIsb w s

/-- 0xF3 ISB, indirect_y (R334). -/
def execIsbIndirectY (d : Byte) (s : State) : Result := modifyInstr 2 8 opIsb (indirectYForced d s).1.ea (indirectYForced d s).2

/-- 0xF7 ISB, zeropage_x (R334). -/
def execIsbZeropageX (d : Byte) (s : State) : Result := modifyInstr 2 6 opIsb (zeropageIndexed d s.cpu.x) s

/-- 0xFB ISB, absolute_y (R334). -/
def execIsbAbsoluteY (w : Word) (s : State) : Result :=
  modifyInstr 3 7 opIsb (indexForced w s.cpu.y s).1.ea (indexForced w s.cpu.y s).2

/-- 0xFF ISB, absolute_x (R334). -/
def execIsbAbsoluteX (w : Word) (s : State) : Result :=
  modifyInstr 3 7 opIsb (indexForced w s.cpu.x s).1.ea (indexForced w s.cpu.x s).2

/-! ### SLO -/

/-- 0x03 SLO, indirect_x (R335). -/
def execSloIndirectX (d : Byte) (s : State) : Result := modifyInstr 2 8 opSlo (indirectX d s).1 (indirectX d s).2

/-- 0x07 SLO, zeropage (R335). -/
def execSloZeropage (d : Byte) (s : State) : Result := modifyInstr 2 5 opSlo (zeropage d) s

/-- 0x0F SLO, absolute (R335). -/
def execSloAbsolute (w : Word) (s : State) : Result := modifyInstr 3 6 opSlo w s

/-- 0x13 SLO, indirect_y (R335). -/
def execSloIndirectY (d : Byte) (s : State) : Result := modifyInstr 2 8 opSlo (indirectYForced d s).1.ea (indirectYForced d s).2

/-- 0x17 SLO, zeropage_x (R335). -/
def execSloZeropageX (d : Byte) (s : State) : Result := modifyInstr 2 6 opSlo (zeropageIndexed d s.cpu.x) s

/-- 0x1B SLO, absolute_y (R335). -/
def execSloAbsoluteY (w : Word) (s : State) : Result :=
  modifyInstr 3 7 opSlo (indexForced w s.cpu.y s).1.ea (indexForced w s.cpu.y s).2

/-- 0x1F SLO, absolute_x (R335). -/
def execSloAbsoluteX (w : Word) (s : State) : Result :=
  modifyInstr 3 7 opSlo (indexForced w s.cpu.x s).1.ea (indexForced w s.cpu.x s).2

/-! ### RLA -/

/-- 0x23 RLA, indirect_x (R336). -/
def execRlaIndirectX (d : Byte) (s : State) : Result := modifyInstr 2 8 opRla (indirectX d s).1 (indirectX d s).2

/-- 0x27 RLA, zeropage (R336). -/
def execRlaZeropage (d : Byte) (s : State) : Result := modifyInstr 2 5 opRla (zeropage d) s

/-- 0x2F RLA, absolute (R336). -/
def execRlaAbsolute (w : Word) (s : State) : Result := modifyInstr 3 6 opRla w s

/-- 0x33 RLA, indirect_y (R336). -/
def execRlaIndirectY (d : Byte) (s : State) : Result := modifyInstr 2 8 opRla (indirectYForced d s).1.ea (indirectYForced d s).2

/-- 0x37 RLA, zeropage_x (R336). -/
def execRlaZeropageX (d : Byte) (s : State) : Result := modifyInstr 2 6 opRla (zeropageIndexed d s.cpu.x) s

/-- 0x3B RLA, absolute_y (R336). -/
def execRlaAbsoluteY (w : Word) (s : State) : Result :=
  modifyInstr 3 7 opRla (indexForced w s.cpu.y s).1.ea (indexForced w s.cpu.y s).2

/-- 0x3F RLA, absolute_x (R336). -/
def execRlaAbsoluteX (w : Word) (s : State) : Result :=
  modifyInstr 3 7 opRla (indexForced w s.cpu.x s).1.ea (indexForced w s.cpu.x s).2

/-! ### SRE -/

/-- 0x43 SRE, indirect_x (R337). -/
def execSreIndirectX (d : Byte) (s : State) : Result := modifyInstr 2 8 opSre (indirectX d s).1 (indirectX d s).2

/-- 0x47 SRE, zeropage (R337). -/
def execSreZeropage (d : Byte) (s : State) : Result := modifyInstr 2 5 opSre (zeropage d) s

/-- 0x4F SRE, absolute (R337). -/
def execSreAbsolute (w : Word) (s : State) : Result := modifyInstr 3 6 opSre w s

/-- 0x53 SRE, indirect_y (R337). -/
def execSreIndirectY (d : Byte) (s : State) : Result := modifyInstr 2 8 opSre (indirectYForced d s).1.ea (indirectYForced d s).2

/-- 0x57 SRE, zeropage_x (R337). -/
def execSreZeropageX (d : Byte) (s : State) : Result := modifyInstr 2 6 opSre (zeropageIndexed d s.cpu.x) s

/-- 0x5B SRE, absolute_y (R337). -/
def execSreAbsoluteY (w : Word) (s : State) : Result :=
  modifyInstr 3 7 opSre (indexForced w s.cpu.y s).1.ea (indexForced w s.cpu.y s).2

/-- 0x5F SRE, absolute_x (R337). -/
def execSreAbsoluteX (w : Word) (s : State) : Result :=
  modifyInstr 3 7 opSre (indexForced w s.cpu.x s).1.ea (indexForced w s.cpu.x s).2

/-! ### RRA -/

/-- 0x63 RRA, indirect_x (R338). -/
def execRraIndirectX (d : Byte) (s : State) : Result := modifyInstr 2 8 opRra (indirectX d s).1 (indirectX d s).2

/-- 0x67 RRA, zeropage (R338). -/
def execRraZeropage (d : Byte) (s : State) : Result := modifyInstr 2 5 opRra (zeropage d) s

/-- 0x6F RRA, absolute (R338). -/
def execRraAbsolute (w : Word) (s : State) : Result := modifyInstr 3 6 opRra w s

/-- 0x73 RRA, indirect_y (R338). -/
def execRraIndirectY (d : Byte) (s : State) : Result := modifyInstr 2 8 opRra (indirectYForced d s).1.ea (indirectYForced d s).2

/-- 0x77 RRA, zeropage_x (R338). -/
def execRraZeropageX (d : Byte) (s : State) : Result := modifyInstr 2 6 opRra (zeropageIndexed d s.cpu.x) s

/-- 0x7B RRA, absolute_y (R338). -/
def execRraAbsoluteY (w : Word) (s : State) : Result :=
  modifyInstr 3 7 opRra (indexForced w s.cpu.y s).1.ea (indexForced w s.cpu.y s).2

/-- 0x7F RRA, absolute_x (R338). -/
def execRraAbsoluteX (w : Word) (s : State) : Result :=
  modifyInstr 3 7 opRra (indexForced w s.cpu.x s).1.ea (indexForced w s.cpu.x s).2

/-! ### ANC -/

/-- 0x0B ANC, immediate (R339). -/
def execAncImmediate0B (d : Byte) (s : State) : Result := immediate 2 opAnc d s

/-- 0x2B ANC, immediate (R339). -/
def execAncImmediate2B (d : Byte) (s : State) : Result := immediate 2 opAnc d s

/-! ### ALR -/

/-- 0x4B ALR, immediate (R340). -/
def execAlrImmediate (d : Byte) (s : State) : Result := immediate 2 opAlr d s

/-! ### ARR -/

/-- 0x6B ARR, immediate (R341). -/
def execArrImmediate (d : Byte) (s : State) : Result := immediate 2 opArr d s

/-! ### SBX -/

/-- 0xCB SBX, immediate (R342). -/
def execSbxImmediate (d : Byte) (s : State) : Result := immediate 2 opSbx d s

/-! ### SHA -/

/-- 0x93 SHA, indirect_y (R350). -/
def execShaIndirectY (d : Byte) (s : State) : Result := unstableStore 2 6 shaByte (indirectYForced d s)

/-- 0x9F SHA, absolute_y (R350). -/
def execShaAbsoluteY (w : Word) (s : State) : Result := unstableStore 3 5 shaByte (indexForced w s.cpu.y s)

/-! ### SHX -/

/-- 0x9E SHX, absolute_y (R351). -/
def execShxAbsoluteY (w : Word) (s : State) : Result := unstableStore 3 5 shxByte (indexForced w s.cpu.y s)

/-! ### SHY -/

/-- 0x9C SHY, absolute_x (R352). -/
def execShyAbsoluteX (w : Word) (s : State) : Result := unstableStore 3 5 shyByte (indexForced w s.cpu.x s)

/-! ### TAS -/

/-- 0x9B TAS, absolute_y (R353). -/
def execTasAbsoluteY (w : Word) (s : State) : Result :=
  let r := indexForced w s.cpu.y s
  let v := tasByte r.2.cpu r.1.baseHi
  finish 3 5 (memWrite (unstableTarget r.1 v) v (r.2.setCpu (r.2.cpu.setSp (r.2.cpu.a &&& r.2.cpu.x))))

/-! ### LAS -/

/-- 0xBB LAS, absolute_y (R354). -/
def execLasAbsoluteY (w : Word) (s : State) : Result := readIndexed 3 4 opLas (indexNormal w s.cpu.y s)

/-! ### ANE -/

/-- 0x8B ANE, immediate (R355). -/
def execAneImmediate (d : Byte) (s : State) : Result := immediate 2 opAne d s

/-! ### LXA -/

/-- 0xAB LXA, immediate (R356). -/
def execLxaImmediate (d : Byte) (s : State) : Result := immediate 2 opLxa d s

/-! ### JAM -/

/-- 0x02 JAM, implied (R365). -/
def execJam02 (s : State) : Result := .next (s.setJammed true)

/-- 0x12 JAM, implied (R365). -/
def execJam12 (s : State) : Result := .next (s.setJammed true)

/-- 0x22 JAM, implied (R365). -/
def execJam22 (s : State) : Result := .next (s.setJammed true)

/-- 0x32 JAM, implied (R365). -/
def execJam32 (s : State) : Result := .next (s.setJammed true)

/-- 0x42 JAM, implied (R365). -/
def execJam42 (s : State) : Result := .next (s.setJammed true)

/-- 0x52 JAM, implied (R365). -/
def execJam52 (s : State) : Result := .next (s.setJammed true)

/-- 0x62 JAM, implied (R365). -/
def execJam62 (s : State) : Result := .next (s.setJammed true)

/-- 0x72 JAM, implied (R365). -/
def execJam72 (s : State) : Result := .next (s.setJammed true)

/-- 0x92 JAM, implied (R365). -/
def execJam92 (s : State) : Result := .next (s.setJammed true)

/-- 0xB2 JAM, implied (R365). -/
def execJamB2 (s : State) : Result := .next (s.setJammed true)

/-- 0xD2 JAM, implied (R365). -/
def execJamD2 (s : State) : Result := .next (s.setJammed true)

/-- 0xF2 JAM, implied (R365). -/
def execJamF2 (s : State) : Result := .next (s.setJammed true)

end Sys2Proof.Machine
end

