-- ==== Sys2Proof/Machine/Dispatch.lean ====
section
/-! DEFINITION. The dispatch of an instruction to its meaning (spec/40_addressing_modes.md R172): one arm for each constructor. The
state an arm gets is the one after the opcode and operand bytes have been fetched, with PC still at the opcode byte (R35). -/

namespace Sys2Proof.Machine

def exec (i : Instr) (s : State) : Host.Outcome State Fault Refusal :=
  match i with
  | .brk => Sys2Proof.Machine.execBrk s
  | .oraIndirectX d => Sys2Proof.Machine.execOraIndirectX d s
  | .jam02 => Sys2Proof.Machine.execJam02 s
  | .sloIndirectX d => Sys2Proof.Machine.execSloIndirectX d s
  | .nopZeropage04 d => Sys2Proof.Machine.execNopZeropage04 d s
  | .oraZeropage d => Sys2Proof.Machine.execOraZeropage d s
  | .aslZeropage d => Sys2Proof.Machine.execAslZeropage d s
  | .sloZeropage d => Sys2Proof.Machine.execSloZeropage d s
  | .php => Sys2Proof.Machine.execPhp s
  | .oraImmediate d => Sys2Proof.Machine.execOraImmediate d s
  | .aslAccumulator => Sys2Proof.Machine.execAslAccumulator s
  | .ancImmediate0B d => Sys2Proof.Machine.execAncImmediate0B d s
  | .nopAbsolute w => Sys2Proof.Machine.execNopAbsolute w s
  | .oraAbsolute w => Sys2Proof.Machine.execOraAbsolute w s
  | .aslAbsolute w => Sys2Proof.Machine.execAslAbsolute w s
  | .sloAbsolute w => Sys2Proof.Machine.execSloAbsolute w s
  | .bpl d => Sys2Proof.Machine.execBpl d s
  | .oraIndirectY d => Sys2Proof.Machine.execOraIndirectY d s
  | .jam12 => Sys2Proof.Machine.execJam12 s
  | .sloIndirectY d => Sys2Proof.Machine.execSloIndirectY d s
  | .nopZeropageX14 d => Sys2Proof.Machine.execNopZeropageX14 d s
  | .oraZeropageX d => Sys2Proof.Machine.execOraZeropageX d s
  | .aslZeropageX d => Sys2Proof.Machine.execAslZeropageX d s
  | .sloZeropageX d => Sys2Proof.Machine.execSloZeropageX d s
  | .clc => Sys2Proof.Machine.execClc s
  | .oraAbsoluteY w => Sys2Proof.Machine.execOraAbsoluteY w s
  | .nop1A => Sys2Proof.Machine.execNop1A s
  | .sloAbsoluteY w => Sys2Proof.Machine.execSloAbsoluteY w s
  | .nopAbsoluteX1C w => Sys2Proof.Machine.execNopAbsoluteX1C w s
  | .oraAbsoluteX w => Sys2Proof.Machine.execOraAbsoluteX w s
  | .aslAbsoluteX w => Sys2Proof.Machine.execAslAbsoluteX w s
  | .sloAbsoluteX w => Sys2Proof.Machine.execSloAbsoluteX w s
  | .jsr w => Sys2Proof.Machine.execJsr w s
  | .andIndirectX d => Sys2Proof.Machine.execAndIndirectX d s
  | .jam22 => Sys2Proof.Machine.execJam22 s
  | .rlaIndirectX d => Sys2Proof.Machine.execRlaIndirectX d s
  | .bitZeropage d => Sys2Proof.Machine.execBitZeropage d s
  | .andZeropage d => Sys2Proof.Machine.execAndZeropage d s
  | .rolZeropage d => Sys2Proof.Machine.execRolZeropage d s
  | .rlaZeropage d => Sys2Proof.Machine.execRlaZeropage d s
  | .plp => Sys2Proof.Machine.execPlp s
  | .andImmediate d => Sys2Proof.Machine.execAndImmediate d s
  | .rolAccumulator => Sys2Proof.Machine.execRolAccumulator s
  | .ancImmediate2B d => Sys2Proof.Machine.execAncImmediate2B d s
  | .bitAbsolute w => Sys2Proof.Machine.execBitAbsolute w s
  | .andAbsolute w => Sys2Proof.Machine.execAndAbsolute w s
  | .rolAbsolute w => Sys2Proof.Machine.execRolAbsolute w s
  | .rlaAbsolute w => Sys2Proof.Machine.execRlaAbsolute w s
  | .bmi d => Sys2Proof.Machine.execBmi d s
  | .andIndirectY d => Sys2Proof.Machine.execAndIndirectY d s
  | .jam32 => Sys2Proof.Machine.execJam32 s
  | .rlaIndirectY d => Sys2Proof.Machine.execRlaIndirectY d s
  | .nopZeropageX34 d => Sys2Proof.Machine.execNopZeropageX34 d s
  | .andZeropageX d => Sys2Proof.Machine.execAndZeropageX d s
  | .rolZeropageX d => Sys2Proof.Machine.execRolZeropageX d s
  | .rlaZeropageX d => Sys2Proof.Machine.execRlaZeropageX d s
  | .sec => Sys2Proof.Machine.execSec s
  | .andAbsoluteY w => Sys2Proof.Machine.execAndAbsoluteY w s
  | .nop3A => Sys2Proof.Machine.execNop3A s
  | .rlaAbsoluteY w => Sys2Proof.Machine.execRlaAbsoluteY w s
  | .nopAbsoluteX3C w => Sys2Proof.Machine.execNopAbsoluteX3C w s
  | .andAbsoluteX w => Sys2Proof.Machine.execAndAbsoluteX w s
  | .rolAbsoluteX w => Sys2Proof.Machine.execRolAbsoluteX w s
  | .rlaAbsoluteX w => Sys2Proof.Machine.execRlaAbsoluteX w s
  | .rti => Sys2Proof.Machine.execRti s
  | .eorIndirectX d => Sys2Proof.Machine.execEorIndirectX d s
  | .jam42 => Sys2Proof.Machine.execJam42 s
  | .sreIndirectX d => Sys2Proof.Machine.execSreIndirectX d s
  | .nopZeropage44 d => Sys2Proof.Machine.execNopZeropage44 d s
  | .eorZeropage d => Sys2Proof.Machine.execEorZeropage d s
  | .lsrZeropage d => Sys2Proof.Machine.execLsrZeropage d s
  | .sreZeropage d => Sys2Proof.Machine.execSreZeropage d s
  | .pha => Sys2Proof.Machine.execPha s
  | .eorImmediate d => Sys2Proof.Machine.execEorImmediate d s
  | .lsrAccumulator => Sys2Proof.Machine.execLsrAccumulator s
  | .alrImmediate d => Sys2Proof.Machine.execAlrImmediate d s
  | .jmpAbsolute w => Sys2Proof.Machine.execJmpAbsolute w s
  | .eorAbsolute w => Sys2Proof.Machine.execEorAbsolute w s
  | .lsrAbsolute w => Sys2Proof.Machine.execLsrAbsolute w s
  | .sreAbsolute w => Sys2Proof.Machine.execSreAbsolute w s
  | .bvc d => Sys2Proof.Machine.execBvc d s
  | .eorIndirectY d => Sys2Proof.Machine.execEorIndirectY d s
  | .jam52 => Sys2Proof.Machine.execJam52 s
  | .sreIndirectY d => Sys2Proof.Machine.execSreIndirectY d s
  | .nopZeropageX54 d => Sys2Proof.Machine.execNopZeropageX54 d s
  | .eorZeropageX d => Sys2Proof.Machine.execEorZeropageX d s
  | .lsrZeropageX d => Sys2Proof.Machine.execLsrZeropageX d s
  | .sreZeropageX d => Sys2Proof.Machine.execSreZeropageX d s
  | .cli => Sys2Proof.Machine.execCli s
  | .eorAbsoluteY w => Sys2Proof.Machine.execEorAbsoluteY w s
  | .nop5A => Sys2Proof.Machine.execNop5A s
  | .sreAbsoluteY w => Sys2Proof.Machine.execSreAbsoluteY w s
  | .nopAbsoluteX5C w => Sys2Proof.Machine.execNopAbsoluteX5C w s
  | .eorAbsoluteX w => Sys2Proof.Machine.execEorAbsoluteX w s
  | .lsrAbsoluteX w => Sys2Proof.Machine.execLsrAbsoluteX w s
  | .sreAbsoluteX w => Sys2Proof.Machine.execSreAbsoluteX w s
  | .rts => Sys2Proof.Machine.execRts s
  | .adcIndirectX d => Sys2Proof.Machine.execAdcIndirectX d s
  | .jam62 => Sys2Proof.Machine.execJam62 s
  | .rraIndirectX d => Sys2Proof.Machine.execRraIndirectX d s
  | .nopZeropage64 d => Sys2Proof.Machine.execNopZeropage64 d s
  | .adcZeropage d => Sys2Proof.Machine.execAdcZeropage d s
  | .rorZeropage d => Sys2Proof.Machine.execRorZeropage d s
  | .rraZeropage d => Sys2Proof.Machine.execRraZeropage d s
  | .pla => Sys2Proof.Machine.execPla s
  | .adcImmediate d => Sys2Proof.Machine.execAdcImmediate d s
  | .rorAccumulator => Sys2Proof.Machine.execRorAccumulator s
  | .arrImmediate d => Sys2Proof.Machine.execArrImmediate d s
  | .jmpIndirect w => Sys2Proof.Machine.execJmpIndirect w s
  | .adcAbsolute w => Sys2Proof.Machine.execAdcAbsolute w s
  | .rorAbsolute w => Sys2Proof.Machine.execRorAbsolute w s
  | .rraAbsolute w => Sys2Proof.Machine.execRraAbsolute w s
  | .bvs d => Sys2Proof.Machine.execBvs d s
  | .adcIndirectY d => Sys2Proof.Machine.execAdcIndirectY d s
  | .jam72 => Sys2Proof.Machine.execJam72 s
  | .rraIndirectY d => Sys2Proof.Machine.execRraIndirectY d s
  | .nopZeropageX74 d => Sys2Proof.Machine.execNopZeropageX74 d s
  | .adcZeropageX d => Sys2Proof.Machine.execAdcZeropageX d s
  | .rorZeropageX d => Sys2Proof.Machine.execRorZeropageX d s
  | .rraZeropageX d => Sys2Proof.Machine.execRraZeropageX d s
  | .sei => Sys2Proof.Machine.execSei s
  | .adcAbsoluteY w => Sys2Proof.Machine.execAdcAbsoluteY w s
  | .nop7A => Sys2Proof.Machine.execNop7A s
  | .rraAbsoluteY w => Sys2Proof.Machine.execRraAbsoluteY w s
  | .nopAbsoluteX7C w => Sys2Proof.Machine.execNopAbsoluteX7C w s
  | .adcAbsoluteX w => Sys2Proof.Machine.execAdcAbsoluteX w s
  | .rorAbsoluteX w => Sys2Proof.Machine.execRorAbsoluteX w s
  | .rraAbsoluteX w => Sys2Proof.Machine.execRraAbsoluteX w s
  | .nopImmediate80 d => Sys2Proof.Machine.execNopImmediate80 d s
  | .staIndirectX d => Sys2Proof.Machine.execStaIndirectX d s
  | .nopImmediate82 d => Sys2Proof.Machine.execNopImmediate82 d s
  | .saxIndirectX d => Sys2Proof.Machine.execSaxIndirectX d s
  | .styZeropage d => Sys2Proof.Machine.execStyZeropage d s
  | .staZeropage d => Sys2Proof.Machine.execStaZeropage d s
  | .stxZeropage d => Sys2Proof.Machine.execStxZeropage d s
  | .saxZeropage d => Sys2Proof.Machine.execSaxZeropage d s
  | .dey => Sys2Proof.Machine.execDey s
  | .nopImmediate89 d => Sys2Proof.Machine.execNopImmediate89 d s
  | .txa => Sys2Proof.Machine.execTxa s
  | .aneImmediate d => Sys2Proof.Machine.execAneImmediate d s
  | .styAbsolute w => Sys2Proof.Machine.execStyAbsolute w s
  | .staAbsolute w => Sys2Proof.Machine.execStaAbsolute w s
  | .stxAbsolute w => Sys2Proof.Machine.execStxAbsolute w s
  | .saxAbsolute w => Sys2Proof.Machine.execSaxAbsolute w s
  | .bcc d => Sys2Proof.Machine.execBcc d s
  | .staIndirectY d => Sys2Proof.Machine.execStaIndirectY d s
  | .jam92 => Sys2Proof.Machine.execJam92 s
  | .shaIndirectY d => Sys2Proof.Machine.execShaIndirectY d s
  | .styZeropageX d => Sys2Proof.Machine.execStyZeropageX d s
  | .staZeropageX d => Sys2Proof.Machine.execStaZeropageX d s
  | .stxZeropageY d => Sys2Proof.Machine.execStxZeropageY d s
  | .saxZeropageY d => Sys2Proof.Machine.execSaxZeropageY d s
  | .tya => Sys2Proof.Machine.execTya s
  | .staAbsoluteY w => Sys2Proof.Machine.execStaAbsoluteY w s
  | .txs => Sys2Proof.Machine.execTxs s
  | .tasAbsoluteY w => Sys2Proof.Machine.execTasAbsoluteY w s
  | .shyAbsoluteX w => Sys2Proof.Machine.execShyAbsoluteX w s
  | .staAbsoluteX w => Sys2Proof.Machine.execStaAbsoluteX w s
  | .shxAbsoluteY w => Sys2Proof.Machine.execShxAbsoluteY w s
  | .shaAbsoluteY w => Sys2Proof.Machine.execShaAbsoluteY w s
  | .ldyImmediate d => Sys2Proof.Machine.execLdyImmediate d s
  | .ldaIndirectX d => Sys2Proof.Machine.execLdaIndirectX d s
  | .ldxImmediate d => Sys2Proof.Machine.execLdxImmediate d s
  | .laxIndirectX d => Sys2Proof.Machine.execLaxIndirectX d s
  | .ldyZeropage d => Sys2Proof.Machine.execLdyZeropage d s
  | .ldaZeropage d => Sys2Proof.Machine.execLdaZeropage d s
  | .ldxZeropage d => Sys2Proof.Machine.execLdxZeropage d s
  | .laxZeropage d => Sys2Proof.Machine.execLaxZeropage d s
  | .tay => Sys2Proof.Machine.execTay s
  | .ldaImmediate d => Sys2Proof.Machine.execLdaImmediate d s
  | .tax => Sys2Proof.Machine.execTax s
  | .lxaImmediate d => Sys2Proof.Machine.execLxaImmediate d s
  | .ldyAbsolute w => Sys2Proof.Machine.execLdyAbsolute w s
  | .ldaAbsolute w => Sys2Proof.Machine.execLdaAbsolute w s
  | .ldxAbsolute w => Sys2Proof.Machine.execLdxAbsolute w s
  | .laxAbsolute w => Sys2Proof.Machine.execLaxAbsolute w s
  | .bcs d => Sys2Proof.Machine.execBcs d s
  | .ldaIndirectY d => Sys2Proof.Machine.execLdaIndirectY d s
  | .jamB2 => Sys2Proof.Machine.execJamB2 s
  | .laxIndirectY d => Sys2Proof.Machine.execLaxIndirectY d s
  | .ldyZeropageX d => Sys2Proof.Machine.execLdyZeropageX d s
  | .ldaZeropageX d => Sys2Proof.Machine.execLdaZeropageX d s
  | .ldxZeropageY d => Sys2Proof.Machine.execLdxZeropageY d s
  | .laxZeropageY d => Sys2Proof.Machine.execLaxZeropageY d s
  | .clv => Sys2Proof.Machine.execClv s
  | .ldaAbsoluteY w => Sys2Proof.Machine.execLdaAbsoluteY w s
  | .tsx => Sys2Proof.Machine.execTsx s
  | .lasAbsoluteY w => Sys2Proof.Machine.execLasAbsoluteY w s
  | .ldyAbsoluteX w => Sys2Proof.Machine.execLdyAbsoluteX w s
  | .ldaAbsoluteX w => Sys2Proof.Machine.execLdaAbsoluteX w s
  | .ldxAbsoluteY w => Sys2Proof.Machine.execLdxAbsoluteY w s
  | .laxAbsoluteY w => Sys2Proof.Machine.execLaxAbsoluteY w s
  | .cpyImmediate d => Sys2Proof.Machine.execCpyImmediate d s
  | .cmpIndirectX d => Sys2Proof.Machine.execCmpIndirectX d s
  | .nopImmediateC2 d => Sys2Proof.Machine.execNopImmediateC2 d s
  | .dcpIndirectX d => Sys2Proof.Machine.execDcpIndirectX d s
  | .cpyZeropage d => Sys2Proof.Machine.execCpyZeropage d s
  | .cmpZeropage d => Sys2Proof.Machine.execCmpZeropage d s
  | .decZeropage d => Sys2Proof.Machine.execDecZeropage d s
  | .dcpZeropage d => Sys2Proof.Machine.execDcpZeropage d s
  | .iny => Sys2Proof.Machine.execIny s
  | .cmpImmediate d => Sys2Proof.Machine.execCmpImmediate d s
  | .dex => Sys2Proof.Machine.execDex s
  | .sbxImmediate d => Sys2Proof.Machine.execSbxImmediate d s
  | .cpyAbsolute w => Sys2Proof.Machine.execCpyAbsolute w s
  | .cmpAbsolute w => Sys2Proof.Machine.execCmpAbsolute w s
  | .decAbsolute w => Sys2Proof.Machine.execDecAbsolute w s
  | .dcpAbsolute w => Sys2Proof.Machine.execDcpAbsolute w s
  | .bne d => Sys2Proof.Machine.execBne d s
  | .cmpIndirectY d => Sys2Proof.Machine.execCmpIndirectY d s
  | .jamD2 => Sys2Proof.Machine.execJamD2 s
  | .dcpIndirectY d => Sys2Proof.Machine.execDcpIndirectY d s
  | .nopZeropageXD4 d => Sys2Proof.Machine.execNopZeropageXD4 d s
  | .cmpZeropageX d => Sys2Proof.Machine.execCmpZeropageX d s
  | .decZeropageX d => Sys2Proof.Machine.execDecZeropageX d s
  | .dcpZeropageX d => Sys2Proof.Machine.execDcpZeropageX d s
  | .cld => Sys2Proof.Machine.execCld s
  | .cmpAbsoluteY w => Sys2Proof.Machine.execCmpAbsoluteY w s
  | .nopDA => Sys2Proof.Machine.execNopDA s
  | .dcpAbsoluteY w => Sys2Proof.Machine.execDcpAbsoluteY w s
  | .nopAbsoluteXDC w => Sys2Proof.Machine.execNopAbsoluteXDC w s
  | .cmpAbsoluteX w => Sys2Proof.Machine.execCmpAbsoluteX w s
  | .decAbsoluteX w => Sys2Proof.Machine.execDecAbsoluteX w s
  | .dcpAbsoluteX w => Sys2Proof.Machine.execDcpAbsoluteX w s
  | .cpxImmediate d => Sys2Proof.Machine.execCpxImmediate d s
  | .sbcIndirectX d => Sys2Proof.Machine.execSbcIndirectX d s
  | .nopImmediateE2 d => Sys2Proof.Machine.execNopImmediateE2 d s
  | .isbIndirectX d => Sys2Proof.Machine.execIsbIndirectX d s
  | .cpxZeropage d => Sys2Proof.Machine.execCpxZeropage d s
  | .sbcZeropage d => Sys2Proof.Machine.execSbcZeropage d s
  | .incZeropage d => Sys2Proof.Machine.execIncZeropage d s
  | .isbZeropage d => Sys2Proof.Machine.execIsbZeropage d s
  | .inx => Sys2Proof.Machine.execInx s
  | .sbcImmediate d => Sys2Proof.Machine.execSbcImmediate d s
  | .nop => Sys2Proof.Machine.execNop s
  | .sbcImmediateEB d => Sys2Proof.Machine.execSbcImmediateEB d s
  | .cpxAbsolute w => Sys2Proof.Machine.execCpxAbsolute w s
  | .sbcAbsolute w => Sys2Proof.Machine.execSbcAbsolute w s
  | .incAbsolute w => Sys2Proof.Machine.execIncAbsolute w s
  | .isbAbsolute w => Sys2Proof.Machine.execIsbAbsolute w s
  | .beq d => Sys2Proof.Machine.execBeq d s
  | .sbcIndirectY d => Sys2Proof.Machine.execSbcIndirectY d s
  | .jamF2 => Sys2Proof.Machine.execJamF2 s
  | .isbIndirectY d => Sys2Proof.Machine.execIsbIndirectY d s
  | .nopZeropageXF4 d => Sys2Proof.Machine.execNopZeropageXF4 d s
  | .sbcZeropageX d => Sys2Proof.Machine.execSbcZeropageX d s
  | .incZeropageX d => Sys2Proof.Machine.execIncZeropageX d s
  | .isbZeropageX d => Sys2Proof.Machine.execIsbZeropageX d s
  | .sed => Sys2Proof.Machine.execSed s
  | .sbcAbsoluteY w => Sys2Proof.Machine.execSbcAbsoluteY w s
  | .nopFA => Sys2Proof.Machine.execNopFA s
  | .isbAbsoluteY w => Sys2Proof.Machine.execIsbAbsoluteY w s
  | .nopAbsoluteXFC w => Sys2Proof.Machine.execNopAbsoluteXFC w s
  | .sbcAbsoluteX w => Sys2Proof.Machine.execSbcAbsoluteX w s
  | .incAbsoluteX w => Sys2Proof.Machine.execIncAbsoluteX w s
  | .isbAbsoluteX w => Sys2Proof.Machine.execIsbAbsoluteX w s

end Sys2Proof.Machine
end

