-- ==== Sys2Proof/Machine/Fetch.lean ====
section
/-! DEFINITION. Fetching an instruction's bytes, the parts of a step that stand before the instruction
(spec/40_addressing_modes.md R170 to R172), and where a loaded instruction is placed. -/

namespace Sys2Proof.Machine

/-- Fetch the instruction at PC: the opcode byte, then the operand bytes its length asks for, each by `memRead` with its side
effects, in this order (R172, R187). Decoding cannot fail (R147). -/
def fetchInstr (s : State) : Instr × State :=
  let op := memRead s.cpu.pc s
  match operandCount op.1 with
  | 0 => (decodeOp op.1 0 0, op.2)
  | 1 =>
    let b1 := memRead (op.2.cpu.pc + 1) op.2
    (decodeOp op.1 b1.1 0, b1.2)
  | _ =>
    let b1 := memRead (op.2.cpu.pc + 1) op.2
    let b2 := memRead (b1.2.cpu.pc + 2) b1.2
    (decodeOp op.1 b1.1 b2.1, b2.2)

/-- `ExecuteInstruction()` (R172): fetch, then the instruction's meaning. -/
def executeInstruction (s : State) : Result :=
  let r := fetchInstr s
  exec r.1 r.2

/-- The start of a step: frame ready is cleared, and a stall is handed whole to `tick` (R170, R171, D3). -/
def beginStep (s : State) : State :=
  let s := s.setFrameReady false
  if 0 < s.irq.stall then tick s.irq.stall (s.setIrq { s.irq with stall := 0 }) else s

/-- The interrupt slot emptied (R170, R548). -/
def clearPending (s : State) : State := s.setIrq { s.irq with pending := .none }

/-- Service an interrupt through a vector: a step of its own (R548, R550, D11). -/
def serviceStep (vector : Word) (s : State) : Result := finishJump Config.interruptCycles (serviceInterrupt vector s)

/-- The rest of a step after its start (R170, R548, R549): an NMI is serviced, an IRQ is serviced if P.I is 0 and dropped
otherwise, else one instruction executes. -/
def dispatchStep (s : State) : Result :=
  match s.irq.pending with
  | .nmi => serviceStep Config.nmiVector (clearPending s)
  | .irq => if s.cpu.p.i then executeInstruction (clearPending s) else serviceStep Config.irqVector (clearPending s)
  | .none => executeInstruction s

/-! ### Placing an instruction where the next step fetches it -/

/-- Fetching at `addr` reads a storage cell: RAM, SRAM or a PRG byte inside the image. -/
def isStorage (s : State) (addr : Word) : Bool :=
  let a := addr.toNat
  decide (a < 0x2000) || (decide (0x6000 ≤ a) && (decide (a < 0x8000) || decide (s.cart.prgOffset a < s.cart.prgLen)))

/-- Store a byte in the cell a fetch at `addr` reads. In the PRG window it goes into the image, as a loader puts it there: no
instruction can (R484, D33). -/
def placeByte (addr : Word) (b : Byte) (s : State) : State :=
  let a := addr.toNat
  if a < 0x2000 then s.setBus { s.bus with ram := s.bus.ram.write (a % 0x0800) b }
  else if a < 0x8000 then s.setCart { s.cart with sram := s.cart.sram.write (a - 0x6000) b }
  else s.setCart { s.cart with prg := s.cart.prg.write (s.cart.prgOffset a) b }

/-- The PC a loaded instruction is placed at: the present one if its three bytes are storage cells, else 0x0000, in RAM
(notes/assumptions/16.md). -/
def loadPc (s : State) : Word :=
  if isStorage s s.cpu.pc && isStorage s (s.cpu.pc + 1) && isStorage s (s.cpu.pc + 2) then s.cpu.pc else 0

/-- The three bytes of `w`, placed at PC; a reset machine with nothing pending, so that the next step runs them. -/
def loadAtPc (v : Nat) (s : State) : State :=
  let s := { s with started := true, jammed := false, irq := { s.irq with pending := .none, stall := 0 } }
  let pc := loadPc s
  let s := s.setCpu (s.cpu.setPc pc)
  placeByte (pc + 2) (BitVec.ofNat 8 (v / 65536)) (placeByte (pc + 1) (BitVec.ofNat 8 (v / 256)) (placeByte pc (BitVec.ofNat 8 v) s))

end Sys2Proof.Machine
end

