-- ==== Sys2Proof/Machine/Step.lean ====
section
/-! DEFINITION. One step of the machine (spec/40_addressing_modes.md R170), and the placing of one instruction where the next
step fetches it. -/

namespace Sys2Proof.Machine

/-- `Step()` (R170). Before the first `reset()` a step is refused (R595). In the jammed state it is the identity and returns
frame ready false (R560, D7). -/
def step (s : State) : Host.Outcome State Fault Refusal :=
  if !s.started then .refused .stepBeforeReset
  else if s.jammed then .next (s.setFrameReady false)
  else dispatchStep (beginStep s)

/-- `s` with the instruction whose bits are `w` stored where `step` fetches next (notes/assumptions/16.md). -/
def State.withFetchWord (s : State) (nbits w : Nat) : State := loadAtPc (w % 2 ^ nbits) s

end Sys2Proof.Machine
end

