-- ==== Sys2Proof/Machine/Run.lean ====
section
/-! DEFINITION. The two forms of the host's `executeInstructions` (spec/00_scope.md R9). -/

namespace Sys2Proof.Machine

/-- `executeInstructions(count)`: `count` calls of `step()` (R9, D36). -/
def executeInstructions : Nat → State → Result
  | 0, s => .next s
  | n + 1, s =>
    match step s with
    | .next t => executeInstructions n t
    | .fault r => .fault r
    | .refused r => .refused r

/-- `executeInstructions(.nextFrame)`: call `step()` until one returns frame ready (R9), within `fuel` calls. In the jammed
state no frame ever becomes ready (R560), so the number of calls has to be bounded (notes/assumptions/18.md). The result says
whether a frame became ready. -/
def executeToFrame : Nat → State → Bool × Result
  | 0, s => (false, .next s)
  | n + 1, s =>
    match step s with
    | .next t => if t.frameReady then (true, .next t) else executeToFrame n t
    | .fault r => (false, .fault r)
    | .refused r => (false, .refused r)

end Sys2Proof.Machine
end

