-- ==== Sys2Proof/Safety.lean ====
section
/-! DEFINITION. The terms the claims use: the storage cells of the machine and which of them a store reaches, the frames of an
access, the invariant every step keeps, and what a safe run is. -/

namespace Sys2Proof.Machine

/-! ### Storage cells -/

/-- One storage cell of the machine: a byte of RAM, OAM, palette RAM, nametable VRAM, battery RAM, CHR or PRG (10_state.md R47,
R58 to R60, R70). -/
inductive Site where
  | ram (i : Nat)
  | oam (i : Nat)
  | palette (i : Nat)
  | vram (i : Nat)
  | sram (i : Nat)
  | chr (i : Nat)
  | prg (i : Nat)
deriving DecidableEq, Repr

/-- The byte a cell holds. -/
def State.site (s : State) : Site → Byte
  | .ram i => s.bus.ram.read i
  | .oam i => s.ppu.oam.read i
  | .palette i => s.ppu.palette.read i
  | .vram i => s.ppu.vram.read i
  | .sram i => s.cart.sram.read i
  | .chr i => s.cart.chr.read i
  | .prg i => s.cart.prg.read i

/-- The cell a write through the PPU data port reaches (20_memory.md R122, 49_mappers.md R486): none for CHR ROM. -/
def dataPortSites (s : State) : List Site :=
  let a := s.ppu.dataAddr
  if a < 0x2000 then (if s.cart.chrIsRam then [.chr (s.cart.chrOffset a)] else [])
  else if a < 0x3F00 then [.vram (ntIndex s.cart.mirroring a)]
  else [.palette (palIndex a)]

/-- The cells a CPU store to `addr` reaches, in state `s` (20_memory.md R90, R92): one byte of RAM or of battery RAM; one byte of
OAM or of the PPU's memories through registers 4 and 7; all of OAM for 0x4014; nothing elsewhere. -/
def storedSites (addr : Word) (s : State) : List Site :=
  let a := addr.toNat
  if a < 0x2000 then [.ram (a % 0x0800)]
  else if a < 0x4000 then
    if a % 8 = 4 then [.oam s.ppu.oamAddr.toNat] else if a % 8 = 7 then dataPortSites s else []
  else if a = 0x4014 then (List.range 256).map .oam
  else if a < 0x6000 then []
  else if a < 0x8000 then [.sram (a - 0x6000)]
  else []

/-- A store to `addr` puts its byte in one cell as it stands: RAM or battery RAM. -/
def plainSite (addr : Word) : Option Site :=
  let a := addr.toNat
  if a < 0x2000 then some (.ram (a % 0x0800))
  else if 0x6000 ≤ a ∧ a < 0x8000 then some (.sram (a - 0x6000))
  else none

/-- Every storage cell holds in `t` what it holds in `s`. -/
def SameStorage (s t : State) : Prop := ∀ x : Site, t.site x = s.site x

/-- Every storage cell that is not listed holds in `t` what it holds in `s`. -/
def SameStorageBut (stored : List Site) (s t : State) : Prop := ∀ x : Site, x ∉ stored → t.site x = s.site x

/-- What is fixed once the machine is built: the lengths and kind of the cartridge's memories and the decay of the bus latch. -/
def SameFixed (s t : State) : Prop :=
  t.cart.prgLen = s.cart.prgLen ∧ t.cart.chrLen = s.cart.chrLen ∧ t.cart.chrIsRam = s.cart.chrIsRam ∧
    t.openBusDecay = s.openBusDecay ∧ t.started = s.started

/-- The registers of the PPU port that only a CPU access changes (47_ppu_registers_timing.md R381 to R389). -/
def SamePort (s t : State) : Prop :=
  t.ppu.ctrl = s.ppu.ctrl ∧ t.ppu.mask = s.ppu.mask ∧ t.ppu.t = s.ppu.t ∧ t.ppu.fineX = s.ppu.fineX ∧ t.ppu.w = s.ppu.w ∧
    t.ppu.readBuffer = s.ppu.readBuffer ∧ t.ppu.oamAddr = s.ppu.oamAddr

/-! ### The invariant -/

/-- A storage array in canonical form, no larger than `size`. -/
def Memory.ok (size : Nat) (m : Memory) : Bool := m.wf && m.below size

/-- A frame buffer: 240 rows of 256 six-bit colour indices (48_ppu_rendering.md R460, R466). -/
def Frame.ok (f : Frame) : Bool :=
  decide (f.length = Config.frameHeight) &&
    f.all fun row => Memory.ok Config.frameWidth row && row.all fun cell => decide (cell.2.toNat < 64)

/-- The sprite cache: eight entries with OAM indexes below 64, at most eight in use (10_state.md R63). -/
structure SpriteCacheInv (p : Ppu) : Prop where
  length : p.sprites.length = 8
  count  : p.spriteCount ≤ 8
  index  : ∀ sp ∈ p.sprites, sp.index < 64

/-- The PPU (10_state.md R50, R58 to R64). -/
structure PpuInv (p : Ppu) : Prop where
  scanline : p.scanline ≤ 261
  cycle    : p.cycle ≤ 340
  oam      : Memory.ok Config.oamSize p.oam = true
  palette  : Memory.ok Config.paletteSize p.palette = true
  vram     : Memory.ok Config.vramSize p.vram = true
  sprites  : SpriteCacheInv p
  back     : Frame.ok p.back = true
  front    : Frame.ok p.front = true

/-- The registers of a mapper variant (10_state.md R72 to R77). -/
def MapperInv : Mapper → Prop
  | .nrom => True
  | .uxrom b => b < 256
  | .cnrom b => b < 256
  | .axrom b => b < 8
  | .mmc1 m => m.shiftCount ≤ 4 ∧ m.shiftValue.toNat < 2 ^ m.shiftCount
  | .mmc3 m => m.bankReg.length = 8

/-- The cartridge (10_state.md R70, 49_mappers.md R480). -/
structure CartInv (c : Cart) : Prop where
  prgLen : 0 < c.prgLen ∧ c.prgLen % Config.prgPage = 0
  chrLen : 0 < c.chrLen ∧ c.chrLen % Config.chrPage = 0
  prg    : Memory.ok c.prgLen c.prg = true
  chr    : Memory.ok c.chrLen c.chr = true
  sram   : Memory.ok Config.prgRamSize c.sram = true
  mapper : MapperInv c.mapper

/-- The NMI delay counts at most `NMI_DELAY_INIT` (10_state.md R42). -/
def NmiDelayInv : NmiDelay → Prop
  | .delayed n => n ≤ Config.nmiDelayInit
  | _ => True

/-- The invariant every step keeps: each part of the state stays inside the range the spec gives it. -/
structure State.Inv (s : State) : Prop where
  ram      : Memory.ok Config.ramSize s.bus.ram = true
  nmiDelay : NmiDelayInv s.irq.nmiDelay
  ppu      : PpuInv s.ppu
  cart     : CartInv s.cart
  /-- `OPEN_BUS_DECAY_CYCLES` is positive (00_scope.md R10) -/
  decay    : 0 < s.openBusDecay

/-! ### Safe runs -/

/-- A step of `s` completes: it neither faults nor is refused. -/
def SafeStep (s : State) : Prop := ∃ t, step s = .next t

/-- `n` steps of the host's machine from `s` all complete. -/
def SafeRun (n : Nat) (s : State) : Prop := ∃ t, executeInstructions n s = .next t

end Sys2Proof.Machine
end

