-- ==== Sys2Proof/WellFormed.lean ====
section
/-! DEFINITION. When a byte sequence is exactly one instruction, and when an instruction is well formed. The operands of `Instr`
are bit vectors of the field's own width, and every value of every field is admitted (30_encoding.md R140, R143, R147), so every
term of `Instr` is well formed: `Instr.wellFormed_all` in Laws/Encoding.lean. -/

namespace Sys2Proof

/-- A byte sequence that is exactly one instruction: there is an opcode byte, and as many operand bytes as its row of the table
says, no fewer and no more (R140). -/
def wellFormedBytes (bytes : List Byte) : Bool :=
  match bytes with
  | [] => false
  | op :: rest => decide (rest.length = operandCount op)

/-- An instruction is well formed when its encoding is exactly one instruction. -/
def Instr.WellFormed (i : Instr) : Bool := wellFormedBytes (encode i)

end Sys2Proof
end

