-- ==== Sys2Proof/Certificates/Slice0/Obligations.lean ====
section
/-! DEFINITION. The statements for the provers. First the shapes that instructions share (namespace Claims), then one definition
`Obligations.<Name>` for each statement. The effects are written from the spec's rules over numbers, not with the model's own
operations: a byte's Z and N, a sum, a shift. Addresses of memory operands are those the meanings use, and
`Obligations.EffectiveAddresses` says what they are. -/

namespace Sys2Proof.Claims

open Sys2Proof.Machine

/-! ### Flags and bytes -/

/-- Z and N of a result byte (R39). -/
def zn (p : Flags) (v : Byte) : Flags := { p with z := decide (v.toNat = 0), n := decide (128 ≤ v.toNat) }

/-- A flag as 0 or 1. -/
def num (b : Bool) : Nat := if b then 1 else 0

/-- A byte of a number modulo 256. -/
def byte (n : Nat) : Byte := BitVec.ofNat 8 n

/-- `PByte(b)` (R37): the flags as a byte, bit 5 set, bit 4 the break bit. -/
def statusByte (p : Flags) (b : Bool) : Byte :=
  byte (128 * num p.n + 64 * num p.v + 32 + 16 * num b + 8 * num p.d + 4 * num p.i + 2 * num p.z + num p.c)

/-- The flags a pulled byte loads, bits 4 and 5 ignored (R37). -/
def statusFlags (m : Byte) : Flags where
  c := decide (m.toNat % 2 = 1)
  z := decide (m.toNat / 2 % 2 = 1)
  i := decide (m.toNat / 4 % 2 = 1)
  d := decide (m.toNat / 8 % 2 = 1)
  v := decide (m.toNat / 64 % 2 = 1)
  n := decide (m.toNat / 128 % 2 = 1)

/-- The cell of the stack page a stack pointer addresses (R34). -/
def stackSite (sp : Byte) : Site := .ram (256 + sp.toNat)

/-- The word with these two bytes, high byte first (R11). -/
def pair (h l : Byte) : Word := BitVec.ofNat 16 (256 * h.toNat + l.toNat)

/-! ### Arithmetic effects on the register file -/

/-- ADC of a byte (R246): the sum modulo 256, the unsigned carry, and the signed overflow. -/
def addEffect (c : Cpu) (m : Byte) : Cpu :=
  let sum := c.a.toNat + m.toNat + num c.p.c
  let signed := c.a.toInt + m.toInt + (num c.p.c : Int)
  { c with a := byte sum
           p := { zn c.p (byte sum) with c := decide (255 < sum), v := decide (signed < -128 ∨ 127 < signed) } }

/-- SBC of a byte (R232): the difference modulo 256, no borrow, and the signed overflow. -/
def subEffect (c : Cpu) (m : Byte) : Cpu :=
  let borrow := 1 - num c.p.c
  let r := BitVec.ofInt 8 ((c.a.toNat : Int) - m.toNat - borrow)
  let signed := c.a.toInt - m.toInt - borrow
  { c with a := r
           p := { zn c.p r with c := decide (m.toNat + borrow ≤ c.a.toNat), v := decide (signed < -128 ∨ 127 < signed) } }

/-- Comparison of a register with a byte (R247). -/
def compareEffect (c : Cpu) (r m : Byte) : Cpu := { c with p := { zn c.p (r - m) with c := decide (m.toNat ≤ r.toNat) } }

/-- `Asl` (R260): result and carry. -/
def aslResult (m : Byte) : Byte := byte (2 * m.toNat)
/-- `Lsr` (R260). -/
def lsrResult (m : Byte) : Byte := byte (m.toNat / 2)
/-- `Rol` (R260). -/
def rolResult (k : Bool) (m : Byte) : Byte := byte (2 * m.toNat + num k)
/-- `Ror` (R260). -/
def rorResult (k : Bool) (m : Byte) : Byte := byte (m.toNat / 2 + 128 * num k)
/-- The bit a left shift or rotate moves into C (R260). -/
def topBit (m : Byte) : Bool := decide (128 ≤ m.toNat)
/-- The bit a right shift or rotate moves into C (R260). -/
def lowBit (m : Byte) : Bool := decide (m.toNat % 2 = 1)
/-- The register file with another carry. -/
def withCarry (c : Cpu) (b : Bool) : Cpu := { c with p := { c.p with c := b } }

/-! ### Shapes of instructions -/

/-- What no instruction but JAM and `reset()` changes: what is fixed, and the jammed flag. -/
def Kept (s t : State) : Prop := SameFixed s t ∧ t.jammed = s.jammed

/-- `i` completes without a bus access: the register file becomes `cpu'`, `cycles` cycles pass, and nothing else changes: no cell,
no PPU port register, no external event, neither the bus latch nor the stall. -/
def OnRegisters (i : Instr) (s : State) (cycles : Nat) (cpu' : Cpu) : Prop :=
  ∃ t, exec i s = .next t ∧ t.cpu = cpu' ∧ t = (tick cycles s).setCpu cpu' ∧ t.cycles = s.cycles + cycles ∧
    SameStorage s t ∧ SamePort s t ∧ t.io = s.io ∧ t.bus.latch = s.bus.latch ∧ t.irq.stall = s.irq.stall ∧ Kept s t

/-- `i` completes with one data read at `ea`, made in the state `s'` that addressing leaves: the register file becomes `effect` of
the byte read, PC advances by `len`, `cycles` cycles pass, no cell changes, and the rest is what the read and the cycles make.
In RAM and battery RAM the byte read is the cell's. -/
def Reads (i : Instr) (s : State) (ea : Word) (s' : State) (len cycles : Nat) (effect : Cpu → Byte → Cpu) : Prop :=
  ∃ t, exec i s = .next t ∧
    t.cpu = { effect s.cpu (memRead ea s').1 with pc := s.cpu.pc + BitVec.ofNat 16 len } ∧
    (∀ x, plainSite ea = some x → (memRead ea s').1 = s.site x) ∧
    t = (tick cycles (memRead ea s').2).setCpu t.cpu ∧ t.cycles = s.cycles + cycles ∧ SameStorage s t ∧ Kept s t

/-- `i` completes with one write of `v` at `ea`, made in the state `s'` that addressing leaves: the register file becomes `cpu'`,
`cycles` cycles pass, only the cells that a store to `ea` reaches may change, in RAM and battery RAM the cell holds `v`, and the
rest is what the write and the cycles make. -/
def Writes (i : Instr) (s : State) (ea : Word) (s' : State) (v : Byte) (cycles : Nat) (cpu' : Cpu) : Prop :=
  ∃ t, exec i s = .next t ∧ t.cpu = cpu' ∧ SameStorageBut (storedSites ea s') s t ∧
    (s.Inv → ∀ x, plainSite ea = some x → t.site x = v) ∧
    t = (tick cycles (memWrite ea v s')).setCpu cpu' ∧ t.cycles = s.cycles + cycles ∧ Kept s t

/-- `i` completes with one read and then one write at `ea`: the byte written is `result` of the byte read, the register file
becomes `effect` of it. The cells reached are those of a store made after the read. -/
def Modifies (i : Instr) (s : State) (ea : Word) (s' : State) (len cycles : Nat) (result : Cpu → Byte → Byte)
    (effect : Cpu → Byte → Cpu) : Prop :=
  let m := (memRead ea s').1
  let s'' := (memRead ea s').2
  ∃ t, exec i s = .next t ∧ t.cpu = { effect s.cpu m with pc := s.cpu.pc + BitVec.ofNat 16 len } ∧
    SameStorageBut (storedSites ea s'') s t ∧
    (∀ x, plainSite ea = some x → m = s.site x ∧ (s.Inv → t.site x = result s.cpu m)) ∧
    t = (tick cycles (memWrite ea (result s.cpu m) s'')).setCpu t.cpu ∧ t.cycles = s.cycles + cycles ∧ Kept s t

/-- A one-byte instruction on the register file alone: two cycles, PC + 1. -/
def Implied (i : Instr) (effect : Cpu → Cpu) : Prop :=
  ∀ s : State, OnRegisters i s 2 { effect s.cpu with pc := s.cpu.pc + 1 }

/-- An immediate-mode instruction: two cycles, PC + 2; the operand byte is the instruction's own. -/
def Immediate (i : Byte → Instr) (effect : Cpu → Byte → Cpu) : Prop :=
  ∀ (s : State) (d : Byte), OnRegisters (i d) s 2 { effect s.cpu d with pc := s.cpu.pc + 2 }

/-! Read class, one definition for each mode (R176 to R183, R188). -/

/-- zeropage, 3 cycles. -/
def ReadsZeropage (i : Byte → Instr) (effect : Cpu → Byte → Cpu) : Prop :=
  ∀ (s : State) (d : Byte), Reads (i d) s (zeropage d) s 2 3 effect
/-- zeropage_x, 4 cycles. -/
def ReadsZeropageX (i : Byte → Instr) (effect : Cpu → Byte → Cpu) : Prop :=
  ∀ (s : State) (d : Byte), Reads (i d) s (zeropageIndexed d s.cpu.x) s 2 4 effect
/-- zeropage_y, 4 cycles. -/
def ReadsZeropageY (i : Byte → Instr) (effect : Cpu → Byte → Cpu) : Prop :=
  ∀ (s : State) (d : Byte), Reads (i d) s (zeropageIndexed d s.cpu.y) s 2 4 effect
/-- absolute, 4 cycles. -/
def ReadsAbsolute (i : Word → Instr) (effect : Cpu → Byte → Cpu) : Prop :=
  ∀ (s : State) (w : Word), Reads (i w) s w s 3 4 effect
/-- absolute_x, 4 cycles, 5 on a page cross. -/
def ReadsAbsoluteX (i : Word → Instr) (effect : Cpu → Byte → Cpu) : Prop :=
  ∀ (s : State) (w : Word),
    Reads (i w) s (indexNormal w s.cpu.x s).1.ea (indexNormal w s.cpu.x s).2 3 (4 + num (indexNormal w s.cpu.x s).1.crossed) effect
/-- absolute_y, 4 cycles, 5 on a page cross. -/
def ReadsAbsoluteY (i : Word → Instr) (effect : Cpu → Byte → Cpu) : Prop :=
  ∀ (s : State) (w : Word),
    Reads (i w) s (indexNormal w s.cpu.y s).1.ea (indexNormal w s.cpu.y s).2 3 (4 + num (indexNormal w s.cpu.y s).1.crossed) effect
/-- indirect_x, 6 cycles. -/
def ReadsIndirectX (i : Byte → Instr) (effect : Cpu → Byte → Cpu) : Prop :=
  ∀ (s : State) (d : Byte), Reads (i d) s (indirectX d s).1 (indirectX d s).2 2 6 effect
/-- indirect_y, 5 cycles, 6 on a page cross. -/
def ReadsIndirectY (i : Byte → Instr) (effect : Cpu → Byte → Cpu) : Prop :=
  ∀ (s : State) (d : Byte),
    Reads (i d) s (indirectYNormal d s).1.ea (indirectYNormal d s).2 2 (5 + num (indirectYNormal d s).1.crossed) effect

/-- The eight forms LDA, ADC, SBC, AND, ORA, EOR and CMP have. -/
def EightReads (imm zp zpx : Byte → Instr) (abs absx absy : Word → Instr) (indx indy : Byte → Instr)
    (effect : Cpu → Byte → Cpu) : Prop :=
  Immediate imm effect ∧ ReadsZeropage zp effect ∧ ReadsZeropageX zpx effect ∧ ReadsAbsolute abs effect ∧
    ReadsAbsoluteX absx effect ∧ ReadsAbsoluteY absy effect ∧ ReadsIndirectX indx effect ∧ ReadsIndirectY indy effect

/-! Write class (R189): `v` is the byte stored, of the register file. -/

/-- The register file with PC past an instruction of `len` bytes. -/
def past (c : Cpu) (len : Nat) : Cpu := { c with pc := c.pc + BitVec.ofNat 16 len }

/-- zeropage, 3 cycles. -/
def WritesZeropage (i : Byte → Instr) (v : Cpu → Byte) : Prop :=
  ∀ (s : State) (d : Byte), Writes (i d) s (zeropage d) s (v s.cpu) 3 (past s.cpu 2)
/-- zeropage_x, 4 cycles. -/
def WritesZeropageX (i : Byte → Instr) (v : Cpu → Byte) : Prop :=
  ∀ (s : State) (d : Byte), Writes (i d) s (zeropageIndexed d s.cpu.x) s (v s.cpu) 4 (past s.cpu 2)
/-- zeropage_y, 4 cycles. -/
def WritesZeropageY (i : Byte → Instr) (v : Cpu → Byte) : Prop :=
  ∀ (s : State) (d : Byte), Writes (i d) s (zeropageIndexed d s.cpu.y) s (v s.cpu) 4 (past s.cpu 2)
/-- absolute, 4 cycles. -/
def WritesAbsolute (i : Word → Instr) (v : Cpu → Byte) : Prop :=
  ∀ (s : State) (w : Word), Writes (i w) s w s (v s.cpu) 4 (past s.cpu 3)
/-- indirect_x, 6 cycles. -/
def WritesIndirectX (i : Byte → Instr) (v : Cpu → Byte) : Prop :=
  ∀ (s : State) (d : Byte), Writes (i d) s (indirectX d s).1 (indirectX d s).2 (v s.cpu) 6 (past s.cpu 2)

/-! Read-modify-write class (R189). -/

/-- zeropage, 5 cycles; zeropage_x, 6; absolute, 6; absolute_x, 7. -/
def FourModifies (zp zpx : Byte → Instr) (abs absx : Word → Instr) (result : Cpu → Byte → Byte) (effect : Cpu → Byte → Cpu) :
    Prop :=
  (∀ (s : State) (d : Byte), Modifies (zp d) s (zeropage d) s 2 5 result effect) ∧
  (∀ (s : State) (d : Byte), Modifies (zpx d) s (zeropageIndexed d s.cpu.x) s 2 6 result effect) ∧
  (∀ (s : State) (w : Word), Modifies (abs w) s w s 3 6 result effect) ∧
  (∀ (s : State) (w : Word),
    Modifies (absx w) s (indexForced w s.cpu.x s).1.ea (indexForced w s.cpu.x s).2 3 7 result effect)

/-- The four forms above, and absolute_y, 7 cycles; indirect_x, 8; indirect_y, 8. -/
def SevenModifies (zp zpx : Byte → Instr) (abs absx absy : Word → Instr) (indx indy : Byte → Instr)
    (result : Cpu → Byte → Byte) (effect : Cpu → Byte → Cpu) : Prop :=
  FourModifies zp zpx abs absx result effect ∧
  (∀ (s : State) (w : Word),
    Modifies (absy w) s (indexForced w s.cpu.y s).1.ea (indexForced w s.cpu.y s).2 3 7 result effect) ∧
  (∀ (s : State) (d : Byte), Modifies (indx d) s (indirectX d s).1 (indirectX d s).2 2 8 result effect) ∧
  (∀ (s : State) (d : Byte), Modifies (indy d) s (indirectYForced d s).1.ea (indirectYForced d s).2 2 8 result effect)

/-- A branch (R286): 2 cycles not taken, 3 taken, 4 taken to another page than that of the next instruction. -/
def Branches (i : Byte → Instr) (cond : Flags → Bool) : Prop :=
  ∀ (s : State) (d : Byte),
    let next := s.cpu.pc + 2
    let target := BitVec.ofInt 16 ((next.toNat : Int) + d.toInt)
    if cond s.cpu.p then
      OnRegisters (i d) s (if target.toNat / 256 = next.toNat / 256 then 3 else 4) { s.cpu with pc := target }
    else OnRegisters (i d) s 2 { s.cpu with pc := next }

/-- One byte pushed (R104): `v` at the stack cell of SP, SP one less, PC + 1; the rest is what the push and 3 cycles make. -/
def Pushes (i : Instr) (v : Cpu → Byte) : Prop :=
  ∀ s : State, ∃ t, exec i s = .next t ∧ t.cpu = { s.cpu with sp := s.cpu.sp - 1, pc := s.cpu.pc + 1 } ∧
    SameStorageBut [stackSite s.cpu.sp] s t ∧ (s.Inv → t.site (stackSite s.cpu.sp) = v s.cpu) ∧
    t = (tick 3 (push (v s.cpu) s)).setCpu t.cpu ∧
    t.cycles = s.cycles + 3 ∧ SamePort s t ∧ t.io = s.io ∧ t.irq.stall = s.irq.stall ∧ Kept s t

/-- A completion that reads memory and stores nothing: no cell, port register or external event changes; `u` is the state the reads
leave, and the rest is what the cycles make of it. -/
def Quiet (s u t : State) (cycles : Nat) : Prop :=
  t = (tick cycles u).setCpu t.cpu ∧
    t.cycles = s.cycles + cycles ∧ SameStorage s t ∧ SamePort s t ∧ t.io = s.io ∧ t.irq.stall = s.irq.stall ∧ Kept s t

/-- One byte pulled (R105): the byte at the stack cell of SP + 1, PC + 1, 4 cycles. -/
def Pulls (i : Instr) (effect : Cpu → Byte → Cpu) : Prop :=
  ∀ s : State, ∃ t, exec i s = .next t ∧
    t.cpu = { effect s.cpu (s.site (stackSite (s.cpu.sp + 1))) with sp := s.cpu.sp + 1, pc := s.cpu.pc + 1 } ∧
    Quiet s (pop s).2 t 4

/-- The entry that BRK, NMI and IRQ share (R285, R550), made in the state `u`, which is `s` but for what the step does before it: the
return address is pushed, high byte first, then the flags with the break bit `b` and the old I; PC comes from the vector at
`vector`, I is set, SP is three less; the rest is what the three pushes, the two reads of the vector and 7 cycles make. -/
def Enters (r : Result) (s u : State) (ret : Word) (b : Bool) (vector : Nat) : Prop :=
  let pushed := push (statusByte s.cpu.p b) (push (byte ret.toNat) (push (byte (ret.toNat / 256)) u))
  let read := (memRead (BitVec.ofNat 16 (vector + 1)) (memRead (BitVec.ofNat 16 vector) pushed).2).2
  ∃ t, r = .next t ∧
    t.cpu = { s.cpu with sp := s.cpu.sp - 3, pc := pair (s.cart.cpuRead (vector + 1)) (s.cart.cpuRead vector),
                         p := { s.cpu.p with i := true } } ∧
    SameStorageBut [stackSite s.cpu.sp, stackSite (s.cpu.sp - 1), stackSite (s.cpu.sp - 2)] s t ∧
    (s.Inv → t.site (stackSite s.cpu.sp) = byte (ret.toNat / 256) ∧ t.site (stackSite (s.cpu.sp - 1)) = byte ret.toNat ∧
      t.site (stackSite (s.cpu.sp - 2)) = statusByte s.cpu.p b) ∧
    t = (tick 7 read).setCpu t.cpu ∧ t.cycles = s.cycles + 7 ∧ SamePort s t ∧ t.io = s.io ∧ Kept s t

/-- The state in which a step services or drops a request: frame ready cleared and the interrupt slot emptied (R170, R548). -/
def served (s : State) : State := { s with frameReady := false, irq := { s.irq with pending := .none } }

/-- The unstable stores (R350): on a page cross the high byte of the address stored to is replaced by the byte stored. -/
def UnstableStore (i : Instr) (s : State) (r : Resolved × State) (v : Byte) (cycles : Nat) (cpu' : Cpu) : Prop :=
  Writes i s (if r.1.crossed then pair v (byte r.1.ea.toNat) else r.1.ea) r.2 v cycles cpu'

/-! ### Running a step -/

/-- The `n` bytes read from PC on, in order, and the state after the reads (R187). -/
def fetchBytes : Nat → Word → State → List Byte × State
  | 0, _, s => ([], s)
  | n + 1, a, s =>
    let b := memRead a s
    let r := fetchBytes n (a + 1) b.2
    (b.1 :: r.1, r.2)

/-- A machine that has been reset, is not jammed and owes no stall. -/
def Ready (s : State) : Prop := s.started = true ∧ s.jammed = false ∧ s.irq.stall = 0

/-- `n` scanline clocks of MMC3 (R530). -/
def clocks : Nat → Mmc3 → Mmc3
  | 0, m => m
  | n + 1, m => clocks n m.clock

/-- The linear position of the PPU in its frame (R371). -/
def position (s : State) : Nat := s.ppu.scanline * 341 + s.ppu.cycle

/-- The position (241, 1), where vblank starts (R402). -/
def vblankStart : Nat := 241 * 341 + 1

/-! ### Mapper windows (R484 to R523) -/

/-- `Bank(n, size, buf)` for a buffer of `len` bytes (R485). -/
def bankOffset (n size len : Nat) : Nat := n % (len / size) * size

/-- `bankReg[k]` of MMC3 as a number (R77). -/
def reg (m : Mmc3) (k : Nat) : Nat := (m.bankReg.getD k 0).toNat

/-- The PRG offset of MMC1 at `a`, in an image of `len` bytes (R510). -/
def mmc1Prg (m : Mmc1) (len a : Nat) : Nat :=
  let mode := m.control.toNat / 4 % 4
  let b := m.prgBank.toNat
  (if mode ≤ 1 then bankOffset (b / 2 * 2 + if a < 0xC000 then 0 else 1) 0x4000 len
   else if mode = 2 then (if a < 0xC000 then 0 else bankOffset b 0x4000 len)
   else if a < 0xC000 then bankOffset b 0x4000 len else len - 0x4000) + a % 0x4000

/-- The PRG offset of MMC3 at `a`, in an image of `len` bytes (R522). -/
def mmc3Prg (m : Mmc3) (len a : Nat) : Nat :=
  (if 0xE000 ≤ a then len - 0x2000
   else if 0xA000 ≤ a ∧ a < 0xC000 then bankOffset (reg m 7) 0x2000 len
   else if m.prgMode = decide (0xC000 ≤ a) then bankOffset (reg m 6) 0x2000 len
   else len - 0x4000) + a % 0x2000

/-- What a CPU read shows in 0x8000-0xFFFF, in the six variants (R490 to R493, R510, R522). An AxROM image shorter than one bank has
no offset in R485: a read outside it is the model's free value (notes/assumptions/8.md). -/
def PrgWindows : Prop :=
  ∀ (c : Cart) (a : Nat), CartInv c → 0x8000 ≤ a → a < 0x10000 →
    let len := c.prgLen
    let shows : Nat → Prop := fun off => off < len ∧ c.cpuRead a = c.prg.read off
    (c.mapper = .nrom → shows ((a - 0x8000) % len)) ∧
    (∀ b, c.mapper = .cnrom b → shows ((a - 0x8000) % len)) ∧
    (∀ b, c.mapper = .uxrom b →
      shows (if a < 0xC000 then bankOffset b 0x4000 len + (a - 0x8000) else len - 0x4000 + (a - 0xC000))) ∧
    (∀ b, c.mapper = .axrom b → 0x8000 ≤ len → shows (bankOffset b 0x8000 len + (a - 0x8000))) ∧
    (∀ b, c.mapper = .axrom b → len < 0x8000 →
      c.cpuRead a = if b * 0x8000 + (a - 0x8000) < len then c.prg.read (b * 0x8000 + (a - 0x8000))
        else Config.outsidePrg (b * 0x8000 + (a - 0x8000))) ∧
    (∀ m, c.mapper = .mmc1 m → shows (mmc1Prg m len a)) ∧
    (∀ m, c.mapper = .mmc3 m → shows (mmc3Prg m len a))

/-- The 1 KB CHR bank of MMC3 at `a` (R523). -/
def mmc3ChrBank (m : Mmc3) (a : Nat) : Nat :=
  let col := (a / 0x400 + if m.chrMode then 4 else 0) % 8
  if col < 2 then reg m 0 / 2 * 2 + col else if col < 4 then reg m 1 / 2 * 2 + (col - 2) else reg m (col - 2)

/-- What the PPU reads and writes in 0x0000-0x1FFF, in the six variants (R484, R486, R490 to R493, R511, R523). -/
def ChrWindows : Prop :=
  ∀ (c : Cart) (a : Nat), CartInv c → a < 0x2000 →
    c.ppuRead a = c.chr.read (c.chrOffset a) ∧ c.chrOffset a < c.chrLen ∧
    (∀ d, c.ppuWrite a d = if c.chrIsRam then { c with chr := c.chr.write (c.chrOffset a) d } else c) ∧
    (c.mapper = .nrom → c.chrOffset a = a) ∧ (∀ b, c.mapper = .uxrom b → c.chrOffset a = a) ∧
    (∀ b, c.mapper = .axrom b → c.chrOffset a = a) ∧
    (∀ b, c.mapper = .cnrom b → c.chrOffset a = bankOffset b 0x2000 c.chrLen + a) ∧
    (∀ m, c.mapper = .mmc1 m → c.chrOffset a =
      (if m.control.toNat / 16 = 0 then bankOffset (m.chrBank0.toNat / 2 * 2 + a / 0x1000) 0x1000 c.chrLen
       else bankOffset (if a < 0x1000 then m.chrBank0.toNat else m.chrBank1.toNat) 0x1000 c.chrLen) + a % 0x1000) ∧
    (∀ m, c.mapper = .mmc3 m → c.chrOffset a = bankOffset (mmc3ChrBank m a) 0x400 c.chrLen + a % 0x400)

/-- A CPU write to the mapper window: nothing below 0x6000, battery RAM below 0x8000, and above it the registers of NROM, UxROM, CNROM
and AxROM (R484, R490 to R493). -/
def BoardRegisters : Prop :=
  ∀ (c : Cart) (a : Nat) (d : Byte),
    (a < 0x6000 → c.cpuWrite a d = c) ∧
    (0x6000 ≤ a → a < 0x8000 → c.cpuWrite a d = { c with sram := c.sram.write (a - 0x6000) d } ∧
      c.cpuRead a = c.sram.read (a - 0x6000)) ∧
    (0x8000 ≤ a → (c.mapper = .nrom → c.cpuWrite a d = c) ∧
      (∀ b, c.mapper = .uxrom b → c.cpuWrite a d = { c with mapper := .uxrom d.toNat }) ∧
      (∀ b, c.mapper = .cnrom b → c.cpuWrite a d = { c with mapper := .cnrom d.toNat }) ∧
      (∀ b, c.mapper = .axrom b → c.cpuWrite a d =
        { c with mapper := .axrom (d.toNat % 8), mirroring := if d.toNat / 16 % 2 = 1 then .single1 else .single0 }))

/-- The accesses of the CPU that reach the mapper: reads from 0x6000 on and writes from 0x4020 on, through the bus latch (R91, R92, R100,
R114; a read of 0x4020 to 0x5FFF is an open-bus read). -/
def MapperReached : Prop :=
  ∀ (s : State) (a : Word),
    (0x6000 ≤ a.toNat → memRead a s =
      (s.cart.cpuRead a.toNat, { s with bus := { s.bus with latch := s.cart.cpuRead a.toNat, latchAge := 0 } })) ∧
    (0x4020 ≤ a.toNat → ∀ d, memWrite a d s =
      { s with cart := s.cart.cpuWrite a.toNat d, bus := { s.bus with latch := d, latchAge := 0 } })

/-- A CPU write to an MMC3 register (R521). -/
def Mmc3Registers : Prop :=
  ∀ (c : Cart) (m : Mmc3) (a : Nat) (d : Byte), c.mapper = .mmc3 m → 0x8000 ≤ a → a < 0x10000 →
    let even := a % 2 = 0
    let set : Mmc3 → Cart := fun m' => { c with mapper := .mmc3 m' }
    c.cpuWrite a d =
      if a < 0xA000 then
        if even then
          set { m with bankSelect := BitVec.ofNat 3 d.toNat, prgMode := decide (d.toNat / 64 % 2 = 1), chrMode := decide (128 ≤ d.toNat) }
        else set { m with bankReg := m.bankReg.set m.bankSelect.toNat d }
      else if a < 0xC000 then
        if even then { c with mirroring := if d.toNat % 2 = 1 then .horizontal else .vertical } else c
      else if a < 0xE000 then
        if even then set { m with irqLatch := d } else set { m with irqCounter := 0 }
      else if even then set { m with irqEnable := false, irqLine := false }
      else set { m with irqEnable := true }

/-- The scanline clock of MMC3, and the PPU cycles that give it: cycle 280 of lines 0 to 239 and 261 with rendering enabled; no PPU
cycle changes anything else of a cartridge, and no other variant is clocked (R530). -/
def ScanlineClocks : Prop :=
  (∀ m : Mmc3, m.clock =
    if m.irqCounter = 0 then { m with irqCounter := m.irqLatch }
    else { m with irqCounter := m.irqCounter - 1, irqLine := m.irqLine || (m.irqEnable && decide (m.irqCounter.toNat = 1)) }) ∧
  (∀ s : State,
    (∀ m, s.cart.mapper = .mmc3 m → (ppuDot s).cart =
      if s.ppu.cycle = 280 ∧ (s.ppu.scanline ≤ 239 ∨ s.ppu.scanline = 261) ∧ s.ppu.mask.toNat / 8 % 4 ≠ 0 then
        { s.cart with mapper := .mmc3 m.clock } else s.cart) ∧
    ((∀ m, s.cart.mapper ≠ .mmc3 m) → (ppuDot s).cart = s.cart))

/-- The level an MMC3 mapper asserts (R531). -/
def asserted (c : Cart) : Prop := ∃ m, c.mapper = .mmc3 m ∧ m.irqLine = true

/-- What a CPU cycle leaves in the interrupt slot, whatever I holds: the NMI whose delay runs out; else, in an empty slot, an IRQ if the
mapper's level is asserted at the end of the cycle; else what it held (R111, R541, R542, R546). -/
def SlotFilled : Prop :=
  ∀ s : State,
    ((∃ n, n ≤ 1 ∧ s.irq.nmiDelay = .delayed n) → (tickOne s).irq.pending = .nmi) ∧
    ((¬ ∃ n, n ≤ 1 ∧ s.irq.nmiDelay = .delayed n) →
      (s.irq.pending = .none → asserted (tickOne s).cart → (tickOne s).irq.pending = .irq) ∧
      (s.irq.pending ≠ .none ∨ ¬ asserted (tickOne s).cart → (tickOne s).irq.pending = s.irq.pending))

/-! ### The PPU's own address space (R124, R125) -/

/-- The physical table of a virtual nametable (R124). -/
def table (m : Mirroring) (virt : Nat) : Nat :=
  match m, virt with
  | .horizontal, 0 => 0
  | .horizontal, 1 => 0
  | .horizontal, _ => 1
  | .vertical, 1 => 1
  | .vertical, 3 => 1
  | .vertical, _ => 0
  | .single0, _ => 0
  | .single1, _ => 1

/-- Where a nametable address and a palette address are stored (R124, R125). -/
def PpuIndexes : Prop :=
  (∀ (m : Mirroring) (virt off : Nat), virt < 4 → off < 0x400 →
    ntIndex m (0x2000 + 0x400 * virt + off) = 0x400 * table m virt + off ∧
      (virt < 3 ∨ off < 0x300 → ntIndex m (0x3000 + 0x400 * virt + off) = 0x400 * table m virt + off)) ∧
  (∀ i < 32, ∀ k, palIndex (0x3F00 + 32 * k + i) = if i ∈ [0x10, 0x14, 0x18, 0x1C] then i - 0x10 else i)

/-! ### The write side of the register port (R381 to R387, R547) -/

/-- The NMI delay after a write to the controller: the rising edge of the enable un-cancels, and schedules if vblank is set (R547). -/
def edgeDelay (s : State) (d : Byte) : NmiDelay :=
  if s.ppu.ctrl.toNat < 128 ∧ 128 ≤ d.toNat then
    if s.ppu.vblank then .delayed 14 else if s.irq.nmiDelay = .canceled then .none else s.irq.nmiDelay
  else s.irq.nmiDelay

/-- Writes to registers 0 to 4 and the read of register 4, each exactly (R381 to R387). -/
def PortRegisters : Prop :=
  ∀ (s : State) (a : Word) (d : Byte), 0x2000 ≤ a.toNat → a.toNat < 0x4000 →
    let t := s.ppu.t.toNat
    let set : Ppu → State := fun p => (s.drive d).setPpu p
    (a.toNat % 8 = 0 → memWrite a d s =
      (set { s.ppu with ctrl := d, t := BitVec.ofNat 15 (t % 1024 + 1024 * (d.toNat % 4) + 4096 * (t / 4096)) }).setIrq
        { s.irq with nmiDelay := edgeDelay s d }) ∧
    (a.toNat % 8 = 1 → memWrite a d s = set { s.ppu with mask := d }) ∧
    (a.toNat % 8 = 2 → memWrite a d s = s.drive d) ∧
    (a.toNat % 8 = 3 → memWrite a d s = set { s.ppu with oamAddr := d }) ∧
    (a.toNat % 8 = 4 → memWrite a d s =
      set { s.ppu with oam := s.ppu.oam.write s.ppu.oamAddr.toNat d, oamAddr := byte (s.ppu.oamAddr.toNat + 1) }) ∧
    (a.toNat % 8 = 4 → memRead a s = (s.site (.oam s.ppu.oamAddr.toNat), s.drive (s.site (.oam s.ppu.oamAddr.toNat))))

/-! ### The external port (R98) -/

/-- A read of the external port returns the next queued answer, or whatever the free value is, and records the event; a write records its
event; the bus latch is refreshed and nothing else changes (R98, R114). -/
def ExternalPort : Prop :=
  ∀ (s : State) (a : Word), (0x4000 ≤ a.toNat ∧ a.toNat < 0x4014) ∨ (0x4015 ≤ a.toNat ∧ a.toNat < 0x4018) →
    (∃ b, (∀ x rest, s.io.answers = x :: rest → b = x) ∧
      memRead a s = (b, { s with io := { answers := s.io.answers.drop 1, reads := s.io.reads + 1, log := .read a b :: s.io.log }
                                 bus := { s.bus with latch := b, latchAge := 0 } })) ∧
    (∀ v, memWrite a v s = { s with io := { s.io with log := .write a v :: s.io.log }
                                    bus := { s.bus with latch := v, latchAge := 0 } })

/-- The eight addresses outside the address map, 0x4018 to 0x401F: a read gives 0x00 and, as a completed read, refreshes the bus latch
with it; a write only drives the latch (R99). -/
def OutsideTheMap : Prop :=
  ∀ (s : State) (a : Word), 0x4018 ≤ a.toNat → a.toNat < 0x4020 →
    memRead a s = (0, { s with bus := { s.bus with latch := 0, latchAge := 0 } }) ∧
    ∀ v, memWrite a v s = { s with bus := { s.bus with latch := v, latchAge := 0 } }

/-! ### Scroll fields (R51) and pixels (R460 to R462) -/

/-- Coarse X. -/
def coarseX (v : BitVec 15) : Nat := v.toNat % 32
/-- Coarse Y. -/
def coarseY (v : BitVec 15) : Nat := v.toNat / 32 % 32
/-- The nametable X bit. -/
def tableX (v : BitVec 15) : Nat := v.toNat / 1024 % 2
/-- The nametable Y bit. -/
def tableY (v : BitVec 15) : Nat := v.toNat / 2048 % 2
/-- Fine Y. -/
def fineY (v : BitVec 15) : Nat := v.toNat / 4096

/-- The background pixel after clipping (R461, R465). -/
def background (p : Ppu) (px : Nat) : Nat :=
  if p.maskShowBg = false ∨ (px < 8 ∧ p.maskShowBgLeft = false) then 0
  else p.bgShift.toNat / 2 ^ (32 + 4 * (7 - p.fineX.toNat)) % 16

/-- The pixel of a cached sprite (R462). -/
def spriteNibble (sp : Sprite) (px : Nat) : Nat := sp.pattern.toNat / 2 ^ (4 * (7 - (px - sp.sx.toNat))) % 16

/-- A cached sprite reaches column `px` with an opaque pixel (R462). -/
def covers (px : Nat) (sp : Sprite) : Bool :=
  decide (sp.sx.toNat ≤ px) && decide (px ≤ sp.sx.toNat + 7) && decide (spriteNibble sp px % 4 ≠ 0)

/-- The sprite shown at column `px` (R462, R465). -/
def foreground (p : Ppu) (px : Nat) : Option Sprite :=
  if p.maskShowSprites = false ∨ (px < 8 ∧ p.maskShowSpritesLeft = false) then none
  else (p.sprites.take p.spriteCount).find? (covers px)

/-- The palette index of a pixel (R460). -/
def pixelIndex (p : Ppu) (px : Nat) : Nat :=
  match foreground p px with
  | none => if background p px % 4 = 0 then 0 else background p px
  | some sp => if background p px % 4 ≠ 0 ∧ sp.behind = true then background p px else 16 + spriteNibble sp px

/-! ### One PPU cycle (R400) -/

/-- A row of eight pixels as a number, four bits each, the leftmost highest: pixel `j` has the palette bits `pal` over bit `k j` of the
two pattern bytes (R436, R451). -/
def tileRow (pal : Nat) (hi lo : Byte) (k : Nat → Nat) : Nat :=
  (List.range 8).foldl (fun row j => 16 * row + (4 * pal + 2 * (hi.toNat / 2 ^ k j % 2) + lo.toNat / 2 ^ k j % 2)) 0

/-- The PPU is on a render line with rendering enabled (R371, R376). -/
def rendering (s : State) : Bool :=
  decide (s.ppu.mask.toNat / 8 % 4 ≠ 0) && (decide (s.ppu.scanline ≤ 239) || decide (s.ppu.scanline = 261))

/-- The fetch micro-sequence runs: cycles 1 to 256 and 321 to 336 (R431, R437). -/
def fetching (s : State) : Bool :=
  rendering s && (decide (1 ≤ s.ppu.cycle ∧ s.ppu.cycle ≤ 256) || decide (321 ≤ s.ppu.cycle ∧ s.ppu.cycle ≤ 336))

/-- The nametable byte under `v` (R432). -/
def tileName (p : Ppu) (c : Cart) : Byte := p.vram.read (ntIndex c.mirroring (0x2000 + p.v.toNat % 0x1000))

/-- The palette bits of the tile under `v`, its quadrant of the attribute byte of its 4 by 4 block (R433). -/
def tilePalette (p : Ppu) (c : Cart) : BitVec 2 :=
  let a := 0x23C0 + 0x400 * (p.v.toNat / 0x400 % 4) + 8 * (coarseY p.v / 4) + coarseX p.v / 4
  BitVec.ofNat 2 ((p.vram.read (ntIndex c.mirroring a)).toNat / 2 ^ (4 * (coarseY p.v / 2 % 2) + 2 * (coarseX p.v / 2 % 2)))

/-- Where the low pattern byte of the named tile's row lies; the high one lies 8 above (R434, R435). -/
def patternAddress (p : Ppu) : Nat := 0x1000 * (p.ctrl.toNat / 16 % 2) + 16 * p.ntByte.toNat + fineY p.v

/-- What a PPU cycle does to the background latches and the shift buffer: each latch in its phase; a shift by one pixel in every fetching
cycle, and in phase 0 the fetched row ORed into the lower half; and nothing at any other position (R400, R431 to R438). -/
def BackgroundFetch : Prop :=
  ∀ s : State,
    let p := s.ppu
    let q := (ppuDot s).ppu
    q.ntByte = (if fetching s ∧ p.cycle % 8 = 1 then tileName p s.cart else p.ntByte) ∧
    q.atBits = (if fetching s ∧ p.cycle % 8 = 3 then tilePalette p s.cart else p.atBits) ∧
    q.patLo = (if fetching s ∧ p.cycle % 8 = 5 then s.cart.ppuRead (patternAddress p) else p.patLo) ∧
    q.patHi = (if fetching s ∧ p.cycle % 8 = 7 then s.cart.ppuRead (patternAddress p + 8) else p.patHi) ∧
    q.bgShift =
      if fetching s then
        (p.bgShift <<< 4) |||
          BitVec.ofNat 64 (if p.cycle % 8 = 0 then tileRow p.atBits.toNat p.patHi p.patLo (fun j => 7 - j) else 0)
      else p.bgShift

/-- The positions at which a PPU cycle changes `v`, and by which update; `t`, fine X and the write toggle it leaves alone (R400). -/
def ScrollPositions : Prop :=
  ∀ s : State,
    let p := s.ppu
    let q := (ppuDot s).ppu
    q.v =
      (if rendering s = false then p.v
       else if p.cycle = 256 then p.incCoarseX.incY.v
       else if p.cycle = 257 then p.copyX.v
       else if p.scanline = 261 ∧ 280 ≤ p.cycle ∧ p.cycle ≤ 304 then p.copyY.v
       else if fetching s ∧ p.cycle % 8 = 0 then p.incCoarseX.v
       else p.v) ∧
    q.t = p.t ∧ q.fineX = p.fineX ∧ q.w = p.w

/-- The positions at which a PPU cycle draws a pixel, before anything else it does, and at which it evaluates the sprites (cycle 257 of a
visible line) or empties the sprite cache (of the pre-render line) (R400, R401, R403). -/
def PixelsAndSprites : Prop :=
  ∀ s : State,
    let p := s.ppu
    let q := (ppuDot s).ppu
    let drawn := if p.scanline ≤ 239 ∧ 1 ≤ p.cycle ∧ p.cycle ≤ 256 then p.renderPixel (p.cycle - 1) p.scanline else p
    let evaluates := rendering s ∧ p.cycle = 257 ∧ p.scanline ≤ 239
    let found := p.evaluateSprites s.cart p.scanline
    q.back = (if p.scanline = 261 ∧ p.cycle = 340 then p.front else drawn.back) ∧
    q.sprite0Hit = (if p.scanline = 261 ∧ p.cycle = 1 then false else drawn.sprite0Hit) ∧
    q.sprites = (if evaluates then found.sprites else p.sprites) ∧
    q.spriteCount = (if evaluates then found.spriteCount else if rendering s ∧ p.cycle = 257 then 0 else p.spriteCount) ∧
    q.spriteOverflow =
      (if p.scanline = 261 ∧ p.cycle = 1 then false else if evaluates then found.spriteOverflow else p.spriteOverflow)

/-- The pattern row of sprite `i` on line `s`, as a number: the row, mirrored by the vertical flip, of its tile, or of the upper or lower
of its two tiles; and the order of the bits by the horizontal flip (R451, R452). -/
def spriteRow (p : Ppu) (c : Cart) (s i : Nat) : Nat :=
  let tile := (p.oam.read (4 * i + 1)).toNat
  let attr := (p.oam.read (4 * i + 2)).toNat
  let tall := p.ctrl.toNat / 32 % 2 = 1
  let row := s - (p.oam.read (4 * i)).toNat
  let r := if 128 ≤ attr then (if tall then 15 else 7) - row else row
  let a :=
    if tall then 0x1000 * (tile % 2) + 16 * (tile / 2 * 2 + r / 8) + r % 8 else 0x1000 * (p.ctrl.toNat / 8 % 2) + 16 * tile + r
  tileRow (attr % 4) (c.ppuRead (a + 8)) (c.ppuRead a) fun j => if attr / 64 % 2 = 1 then j else 7 - j

/-- The sprites in range on line `s`, lowest OAM index first (R450). -/
def inRange (p : Ppu) (s : Nat) : List Nat :=
  (List.range 64).filter fun i =>
    decide ((p.oam.read (4 * i)).toNat ≤ s) && decide (s < (p.oam.read (4 * i)).toNat + (if p.ctrlSpriteSize then 16 else 8))

end Sys2Proof.Claims

open Sys2Proof Sys2Proof.Machine Sys2Proof.Claims

/-! ## Loads, stores, transfers (41_load_store_transfer.md) -/

/-- R201: LDA in its eight forms.
Derived, because it rests on what the spec marks as its own or the model chose: R201, R188. -/
def Obligations.LdaLoadsA : Prop :=
  EightReads .ldaImmediate .ldaZeropage .ldaZeropageX .ldaAbsolute .ldaAbsoluteX .ldaAbsoluteY .ldaIndirectX .ldaIndirectY
    fun c m => { c with a := m, p := zn c.p m }

/-- R202, R203: LDX and LDY in their five forms each.
Derived, because it rests on what the spec marks as its own or the model chose: R202, R203. -/
def Obligations.LdxLdyLoadIndex : Prop :=
  let x : Cpu → Byte → Cpu := fun c m => { c with x := m, p := zn c.p m }
  let y : Cpu → Byte → Cpu := fun c m => { c with y := m, p := zn c.p m }
  Immediate .ldxImmediate x ∧ ReadsZeropage .ldxZeropage x ∧ ReadsZeropageY .ldxZeropageY x ∧ ReadsAbsolute .ldxAbsolute x ∧
    ReadsAbsoluteY .ldxAbsoluteY x ∧
    Immediate .ldyImmediate y ∧ ReadsZeropage .ldyZeropage y ∧ ReadsZeropageX .ldyZeropageX y ∧ ReadsAbsolute .ldyAbsolute y ∧
    ReadsAbsoluteX .ldyAbsoluteX y

/-- R204: STA in its seven forms.
Derived, because it rests on what the spec marks as its own or the model chose: R204. -/
def Obligations.StaStoresA : Prop :=
  WritesZeropage .staZeropage Cpu.a ∧ WritesZeropageX .staZeropageX Cpu.a ∧ WritesAbsolute .staAbsolute Cpu.a ∧
    WritesIndirectX .staIndirectX Cpu.a ∧
    (∀ (s : State) (w : Word), Writes (.staAbsoluteX w) s (indexForced w s.cpu.x s).1.ea (indexForced w s.cpu.x s).2 s.cpu.a 5
      (past s.cpu 3)) ∧
    (∀ (s : State) (w : Word), Writes (.staAbsoluteY w) s (indexForced w s.cpu.y s).1.ea (indexForced w s.cpu.y s).2 s.cpu.a 5
      (past s.cpu 3)) ∧
    (∀ (s : State) (d : Byte), Writes (.staIndirectY d) s (indirectYForced d s).1.ea (indirectYForced d s).2 s.cpu.a 6
      (past s.cpu 2))

/-- R205, R206, R332: STX, STY, and SAX, which stores A AND X.
Derived, because it rests on what the spec marks as its own or the model chose: R205, R206, R332. -/
def Obligations.StxStySaxStore : Prop :=
  let ax : Cpu → Byte := fun c => c.a &&& c.x
  WritesZeropage .stxZeropage Cpu.x ∧ WritesZeropageY .stxZeropageY Cpu.x ∧ WritesAbsolute .stxAbsolute Cpu.x ∧
    WritesZeropage .styZeropage Cpu.y ∧ WritesZeropageX .styZeropageX Cpu.y ∧ WritesAbsolute .styAbsolute Cpu.y ∧
    WritesZeropage .saxZeropage ax ∧ WritesZeropageY .saxZeropageY ax ∧ WritesAbsolute .saxAbsolute ax ∧
    WritesIndirectX .saxIndirectX ax

/-- R207 to R212: the six transfers; TXS sets no flag.
Derived, because it rests on what the spec marks as its own or the model chose: R207 to R212. -/
def Obligations.TransfersMoveRegisters : Prop :=
  Implied .tax (fun c => { c with x := c.a, p := zn c.p c.a }) ∧ Implied .tay (fun c => { c with y := c.a, p := zn c.p c.a }) ∧
    Implied .txa (fun c => { c with a := c.x, p := zn c.p c.x }) ∧ Implied .tya (fun c => { c with a := c.y, p := zn c.p c.y }) ∧
    Implied .tsx (fun c => { c with x := c.sp, p := zn c.p c.sp }) ∧ Implied .txs (fun c => { c with sp := c.x })

/-! ## Arithmetic and logic (42_arithmetic_logic.md) -/

/-- R231, R246: ADC, whatever D holds.
Derived, because it rests on what the spec marks as its own or the model chose: R246 (its formula; R231, which uses it, carries no
mark). -/
def Obligations.AdcAdds : Prop :=
  EightReads .adcImmediate .adcZeropage .adcZeropageX .adcAbsolute .adcAbsoluteX .adcAbsoluteY .adcIndirectX .adcIndirectY addEffect

/-- R232, R343: SBC in its eight forms and the second immediate encoding 0xEB.
Derived, because it rests on what the spec marks as its own or the model chose: R232, R343. -/
def Obligations.SbcSubtracts : Prop :=
  EightReads .sbcImmediate .sbcZeropage .sbcZeropageX .sbcAbsolute .sbcAbsoluteX .sbcAbsoluteY .sbcIndirectX .sbcIndirectY
    subEffect ∧ Immediate .sbcImmediateEB subEffect

/-- R233, R234, R235: AND, ORA and EOR.
Derived, because it rests on what the spec marks as its own or the model chose: R233, R234, R235. -/
def Obligations.LogicCombinesA : Prop :=
  EightReads .andImmediate .andZeropage .andZeropageX .andAbsolute .andAbsoluteX .andAbsoluteY .andIndirectX .andIndirectY
      (fun c m => { c with a := c.a &&& m, p := zn c.p (c.a &&& m) }) ∧
    EightReads .oraImmediate .oraZeropage .oraZeropageX .oraAbsolute .oraAbsoluteX .oraAbsoluteY .oraIndirectX .oraIndirectY
      (fun c m => { c with a := c.a ||| m, p := zn c.p (c.a ||| m) }) ∧
    EightReads .eorImmediate .eorZeropage .eorZeropageX .eorAbsolute .eorAbsoluteX .eorAbsoluteY .eorIndirectX .eorIndirectY
      (fun c m => { c with a := c.a ^^^ m, p := zn c.p (c.a ^^^ m) })

/-- R236, R237, R238, R247: the compares write no register.
Derived, because it rests on what the spec marks as its own or the model chose: R236, R237, R238, R247. -/
def Obligations.ComparesSetFlags : Prop :=
  let x : Cpu → Byte → Cpu := fun c m => compareEffect c c.x m
  let y : Cpu → Byte → Cpu := fun c m => compareEffect c c.y m
  EightReads .cmpImmediate .cmpZeropage .cmpZeropageX .cmpAbsolute .cmpAbsoluteX .cmpAbsoluteY .cmpIndirectX .cmpIndirectY
      (fun c m => compareEffect c c.a m) ∧
    Immediate .cpxImmediate x ∧ ReadsZeropage .cpxZeropage x ∧ ReadsAbsolute .cpxAbsolute x ∧
    Immediate .cpyImmediate y ∧ ReadsZeropage .cpyZeropage y ∧ ReadsAbsolute .cpyAbsolute y

/-- R239: BIT takes N and V from the operand and Z from the AND.
Derived, because it rests on what the spec marks as its own or the model chose: R239. -/
def Obligations.BitTestsOperand : Prop :=
  let f : Cpu → Byte → Cpu := fun c m =>
    { c with p := { c.p with z := decide (c.a &&& m = 0#8), n := decide (128 ≤ m.toNat), v := decide (m.toNat / 64 % 2 = 1) } }
  ReadsZeropage .bitZeropage f ∧ ReadsAbsolute .bitAbsolute f

/-- R240, R241: INC and DEC of memory.
Derived, because it rests on what the spec marks as its own or the model chose: R240, R241. -/
def Obligations.IncDecMemory : Prop :=
  let up : Cpu → Byte → Byte := fun _ m => byte (m.toNat + 1)
  let down : Cpu → Byte → Byte := fun _ m => byte (m.toNat + 255)
  FourModifies .incZeropage .incZeropageX .incAbsolute .incAbsoluteX up (fun c m => { c with p := zn c.p (up c m) }) ∧
    FourModifies .decZeropage .decZeropageX .decAbsolute .decAbsoluteX down (fun c m => { c with p := zn c.p (down c m) })

/-- R242 to R245: INX, INY, DEX, DEY.
Derived, because it rests on what the spec marks as its own or the model chose: R242 to R245. -/
def Obligations.IncDecIndex : Prop :=
  Implied .inx (fun c => { c with x := byte (c.x.toNat + 1), p := zn c.p (byte (c.x.toNat + 1)) }) ∧
    Implied .iny (fun c => { c with y := byte (c.y.toNat + 1), p := zn c.p (byte (c.y.toNat + 1)) }) ∧
    Implied .dex (fun c => { c with x := byte (c.x.toNat + 255), p := zn c.p (byte (c.x.toNat + 255)) }) ∧
    Implied .dey (fun c => { c with y := byte (c.y.toNat + 255), p := zn c.p (byte (c.y.toNat + 255)) })

/-! ## Shifts and rotates (43_shift_rotate.md) -/

/-- R260 to R264: ASL, LSR, ROL and ROR, on the accumulator and on memory.
Derived, because it rests on what the spec marks as its own or the model chose: R260 to R264. -/
def Obligations.ShiftsAndRotates : Prop :=
  let flags : Cpu → Bool → Byte → Cpu := fun c b r => { c with p := { zn c.p r with c := b } }
  FourModifies .aslZeropage .aslZeropageX .aslAbsolute .aslAbsoluteX (fun _ m => aslResult m)
      (fun c m => flags c (topBit m) (aslResult m)) ∧
    FourModifies .lsrZeropage .lsrZeropageX .lsrAbsolute .lsrAbsoluteX (fun _ m => lsrResult m)
      (fun c m => flags c (lowBit m) (lsrResult m)) ∧
    FourModifies .rolZeropage .rolZeropageX .rolAbsolute .rolAbsoluteX (fun c m => rolResult c.p.c m)
      (fun c m => flags c (topBit m) (rolResult c.p.c m)) ∧
    FourModifies .rorZeropage .rorZeropageX .rorAbsolute .rorAbsoluteX (fun c m => rorResult c.p.c m)
      (fun c m => flags c (lowBit m) (rorResult c.p.c m)) ∧
    Implied .aslAccumulator (fun c => { flags c (topBit c.a) (aslResult c.a) with a := aslResult c.a }) ∧
    Implied .lsrAccumulator (fun c => { flags c (lowBit c.a) (lsrResult c.a) with a := lsrResult c.a }) ∧
    Implied .rolAccumulator (fun c => { flags c (topBit c.a) (rolResult c.p.c c.a) with a := rolResult c.p.c c.a }) ∧
    Implied .rorAccumulator (fun c => { flags c (lowBit c.a) (rorResult c.p.c c.a) with a := rorResult c.p.c c.a })

/-! ## Control flow (44_control_flow.md) -/

/-- R281: JMP, absolute and through a pointer whose high byte is not incremented. -/
def Obligations.JmpJumps : Prop :=
  (∀ (s : State) (w : Word), OnRegisters (.jmpAbsolute w) s 3 { s.cpu with pc := w }) ∧
  (∀ (s : State) (w : Word),
    let l := memRead w s
    let h := memRead (BitVec.ofNat 16 (w.toNat / 256 * 256 + (w.toNat + 1) % 256)) l.2
    ∃ t, exec (.jmpIndirect w) s = .next t ∧ t.cpu = { s.cpu with pc := pair h.1 l.1 } ∧
      t = (tick 5 h.2).setCpu t.cpu ∧ t.cycles = s.cycles + 5 ∧ SameStorage s t ∧ Kept s t)

/-- R282: JSR pushes the address of its last byte, high byte first.
Derived, because it rests on what the spec marks as its own or the model chose: R282 (that the word pushed is PC + 2). -/
def Obligations.JsrPushesReturn : Prop :=
  ∀ (s : State) (w : Word), ∃ t, exec (.jsr w) s = .next t ∧ t.cpu = { s.cpu with sp := s.cpu.sp - 2, pc := w } ∧
    SameStorageBut [stackSite s.cpu.sp, stackSite (s.cpu.sp - 1)] s t ∧
    (s.Inv → t.site (stackSite s.cpu.sp) = byte ((s.cpu.pc + 2).toNat / 256) ∧
      t.site (stackSite (s.cpu.sp - 1)) = byte (s.cpu.pc + 2).toNat) ∧
    t = (tick 6 (pushWord (s.cpu.pc + 2) s)).setCpu t.cpu ∧ t.cycles = s.cycles + 6 ∧ SamePort s t ∧ t.io = s.io ∧
    t.irq.stall = s.irq.stall ∧ Kept s t

/-- R283: RTS goes to the pulled word plus one.
Derived, because it rests on what the spec marks as its own or the model chose: R105, R283. -/
def Obligations.RtsReturns : Prop :=
  ∀ s : State, ∃ t, exec .rts s = .next t ∧
    t.cpu = { s.cpu with
      sp := s.cpu.sp + 2
      pc := pair (s.site (stackSite (s.cpu.sp + 2))) (s.site (stackSite (s.cpu.sp + 1))) + 1 } ∧
    Quiet s (popWord s).2 t 6

/-- R284: RTI restores the flags, then PC, with no plus one.
Derived, because it rests on what the spec marks as its own or the model chose: R105, R284. -/
def Obligations.RtiRestores : Prop :=
  ∀ s : State, ∃ t, exec .rti s = .next t ∧
    t.cpu = { s.cpu with
      sp := s.cpu.sp + 3
      p := statusFlags (s.site (stackSite (s.cpu.sp + 1)))
      pc := pair (s.site (stackSite (s.cpu.sp + 3))) (s.site (stackSite (s.cpu.sp + 2))) } ∧
    Quiet s (popWord (pop s).2).2 t 6

/-- R285, R550, R551, R552: BRK takes the entry through 0xFFFE with the break bit set and returns past the byte after it.
Derived, because it rests on what the spec marks as its own or the model chose: R285 (that D and the other flags are kept is marked
from general knowledge), R550, R551. -/
def Obligations.BrkEnters : Prop := ∀ s : State, Enters (exec .brk s) s s (s.cpu.pc + 2) true 0xFFFE

/-- R286 to R294: the eight branches.
Derived, because it rests on what the spec marks as its own or the model chose: R185 (the page comparison), R287 to R294 (the
conditions); R286 carries no mark. -/
def Obligations.BranchesTaken : Prop :=
  Branches .bpl (fun p => !p.n) ∧ Branches .bmi (fun p => p.n) ∧ Branches .bvc (fun p => !p.v) ∧ Branches .bvs (fun p => p.v) ∧
    Branches .bcc (fun p => !p.c) ∧ Branches .bcs (fun p => p.c) ∧ Branches .bne (fun p => !p.z) ∧ Branches .beq (fun p => p.z)

/-! ## Stack, flags, no operation (45_stack_flags_nop.md) -/

/-- R311, R313: PHA and PHP; PHP pushes the flags with bits 4 and 5 set.
Derived, because it rests on what the spec marks as its own or the model chose: R311, R313. -/
def Obligations.PushInstructions : Prop := Pushes .pha Cpu.a ∧ Pushes .php (fun c => statusByte c.p true)

/-- R312, R314: PLA and PLP.
Derived, because it rests on what the spec marks as its own or the model chose: R105, R312, R314. -/
def Obligations.PullInstructions : Prop :=
  Pulls .pla (fun c m => { c with a := m, p := zn c.p m }) ∧ Pulls .plp (fun c m => { c with p := statusFlags m })

/-- R315 to R321: the flag instructions, each on one flag.
Derived, because it rests on what the spec marks as its own or the model chose: R315 to R321. -/
def Obligations.FlagInstructions : Prop :=
  Implied .clc (fun c => { c with p := { c.p with c := false } }) ∧ Implied .sec (fun c => { c with p := { c.p with c := true } }) ∧
    Implied .cli (fun c => { c with p := { c.p with i := false } }) ∧ Implied .sei (fun c => { c with p := { c.p with i := true } }) ∧
    Implied .cld (fun c => { c with p := { c.p with d := false } }) ∧ Implied .sed (fun c => { c with p := { c.p with d := true } }) ∧
    Implied .clv (fun c => { c with p := { c.p with v := false } })

/-- R322, R344 to R347: every NOP; those with an operand address read it and discard the byte.
Derived, because it rests on what the spec marks as its own or the model chose: R322, R344 to R347. -/
def Obligations.NopsDoNothing : Prop :=
  let keep : Cpu → Byte → Cpu := fun c _ => c
  (∀ i ∈ [Instr.nop, .nop1A, .nop3A, .nop5A, .nop7A, .nopDA, .nopFA], Implied i id) ∧
    (∀ i ∈ [Instr.nopImmediate80, .nopImmediate82, .nopImmediate89, .nopImmediateC2, .nopImmediateE2], Immediate i keep) ∧
    (∀ i ∈ [Instr.nopZeropage04, .nopZeropage44, .nopZeropage64], ReadsZeropage i keep) ∧
    (∀ i ∈ [Instr.nopZeropageX14, .nopZeropageX34, .nopZeropageX54, .nopZeropageX74, .nopZeropageXD4, .nopZeropageXF4],
      ReadsZeropageX i keep) ∧
    ReadsAbsolute .nopAbsolute keep ∧
    (∀ i ∈ [Instr.nopAbsoluteX1C, .nopAbsoluteX3C, .nopAbsoluteX5C, .nopAbsoluteX7C, .nopAbsoluteXDC, .nopAbsoluteXFC],
      ReadsAbsoluteX i keep)

/-! ## Undocumented opcodes (46_undocumented.md) -/

/-- R331, R354: LAX in its six forms, and LAS.
Derived, because it rests on what the spec marks as its own or the model chose: R331, R354. -/
def Obligations.LaxLasLoadSeveral : Prop :=
  let ax : Cpu → Byte → Cpu := fun c m => { c with a := m, x := m, p := zn c.p m }
  ReadsZeropage .laxZeropage ax ∧ ReadsZeropageY .laxZeropageY ax ∧ ReadsAbsolute .laxAbsolute ax ∧
    ReadsAbsoluteY .laxAbsoluteY ax ∧ ReadsIndirectX .laxIndirectX ax ∧ ReadsIndirectY .laxIndirectY ax ∧
    ReadsAbsoluteY .lasAbsoluteY
      (fun c m => { c with a := m &&& c.sp, x := m &&& c.sp, sp := m &&& c.sp, p := zn c.p (m &&& c.sp) })

/-- R333, R334: DCP and ISB.
Derived, because it rests on what the spec marks as its own or the model chose: R333, R334. -/
def Obligations.DcpIsbCombine : Prop :=
  SevenModifies .dcpZeropage .dcpZeropageX .dcpAbsolute .dcpAbsoluteX .dcpAbsoluteY .dcpIndirectX .dcpIndirectY
      (fun _ m => byte (m.toNat + 255)) (fun c m => compareEffect c c.a (byte (m.toNat + 255))) ∧
    SevenModifies .isbZeropage .isbZeropageX .isbAbsolute .isbAbsoluteX .isbAbsoluteY .isbIndirectX .isbIndirectY
      (fun _ m => byte (m.toNat + 1)) (fun c m => subEffect c (byte (m.toNat + 1)))

/-- R335 to R338: SLO, RLA, SRE and RRA; the carry of RRA's rotate is the carry into its addition.
Derived, because it rests on what the spec marks as its own or the model chose: R335 to R338. -/
def Obligations.ShiftCombinations : Prop :=
  let into : Cpu → Bool → Byte → Cpu := fun c b r => { c with a := r, p := { zn c.p r with c := b } }
  SevenModifies .sloZeropage .sloZeropageX .sloAbsolute .sloAbsoluteX .sloAbsoluteY .sloIndirectX .sloIndirectY
      (fun _ m => aslResult m) (fun c m => into c (topBit m) (c.a ||| aslResult m)) ∧
    SevenModifies .rlaZeropage .rlaZeropageX .rlaAbsolute .rlaAbsoluteX .rlaAbsoluteY .rlaIndirectX .rlaIndirectY
      (fun c m => rolResult c.p.c m) (fun c m => into c (topBit m) (c.a &&& rolResult c.p.c m)) ∧
    SevenModifies .sreZeropage .sreZeropageX .sreAbsolute .sreAbsoluteX .sreAbsoluteY .sreIndirectX .sreIndirectY
      (fun _ m => lsrResult m) (fun c m => into c (lowBit m) (c.a ^^^ lsrResult m)) ∧
    SevenModifies .rraZeropage .rraZeropageX .rraAbsolute .rraAbsoluteX .rraAbsoluteY .rraIndirectX .rraIndirectY
      (fun c m => rorResult c.p.c m) (fun c m => addEffect (withCarry c (lowBit m)) (rorResult c.p.c m))

/-- R339 to R342: ANC (both encodings), ALR, ARR and SBX.
Derived, because it rests on what the spec marks as its own or the model chose: R339 to R342. -/
def Obligations.ImmediateCombinations : Prop :=
  let anc : Cpu → Byte → Cpu := fun c m => { c with a := c.a &&& m, p := { zn c.p (c.a &&& m) with c := topBit (c.a &&& m) } }
  Immediate .ancImmediate0B anc ∧ Immediate .ancImmediate2B anc ∧
    Immediate .alrImmediate (fun c m =>
      { c with a := lsrResult (c.a &&& m), p := { zn c.p (lsrResult (c.a &&& m)) with c := lowBit (c.a &&& m) } }) ∧
    Immediate .arrImmediate (fun c m =>
      let r := rorResult c.p.c (c.a &&& m)
      { c with a := r, p := { zn c.p r with c := decide (r.toNat / 64 % 2 = 1), v := decide (r.toNat / 64 % 2 ≠ r.toNat / 32 % 2) } }) ∧
    Immediate .sbxImmediate (fun c m =>
      let t := c.a &&& c.x
      { c with x := t - m, p := { zn c.p (t - m) with c := decide (m.toNat ≤ t.toNat) } })

/-- R355, R356: ANE and LXA, for whatever the two open constants are.
Derived, because it rests on what the spec marks as its own or the model chose: R355, R356; free values in notes/assumptions/6.md.
-/
def Obligations.AneLxaOpenConstant : Prop :=
  Immediate .aneImmediate (fun c m =>
      let r := (c.a ||| Config.aneMagic) &&& c.x &&& m
      { c with a := r, p := zn c.p r }) ∧
    Immediate .lxaImmediate (fun c m =>
      let r := (c.a ||| Config.lxaMagic) &&& m
      { c with a := r, x := r, p := zn c.p r })

/-- R350 to R353: SHA, SHX, SHY and TAS; `H` is the high byte of the base before indexing.
Derived, because it rests on what the spec marks as its own or the model chose: R350 to R353. -/
def Obligations.UnstableStores : Prop :=
  let h1 : Word → Byte := fun w => byte (w.toNat / 256 + 1)
  (∀ (s : State) (w : Word), UnstableStore (.shaAbsoluteY w) s (indexForced w s.cpu.y s) (s.cpu.a &&& s.cpu.x &&& h1 w) 5
    (past s.cpu 3)) ∧
  (∀ (s : State) (d : Byte), UnstableStore (.shaIndirectY d) s (indirectYForced d s)
    (s.cpu.a &&& s.cpu.x &&& byte ((s.site (.ram ((d.toNat + 1) % 256))).toNat + 1)) 6 (past s.cpu 2)) ∧
  (∀ (s : State) (w : Word), UnstableStore (.shxAbsoluteY w) s (indexForced w s.cpu.y s) (s.cpu.x &&& h1 w) 5 (past s.cpu 3)) ∧
  (∀ (s : State) (w : Word), UnstableStore (.shyAbsoluteX w) s (indexForced w s.cpu.x s) (s.cpu.y &&& h1 w) 5 (past s.cpu 3)) ∧
  (∀ (s : State) (w : Word), UnstableStore (.tasAbsoluteY w) s (indexForced w s.cpu.y s) (s.cpu.a &&& s.cpu.x &&& h1 w) 5
    { past s.cpu 3 with sp := s.cpu.a &&& s.cpu.x })

/-- R365: each of the twelve JAM opcodes sets the jammed flag and changes nothing else: no register, flag, cell or cycle.
Derived, because it rests on what the spec marks as its own or the model chose: R365, decision D7. -/
def Obligations.JamJams : Prop :=
  ∀ i ∈ [Instr.jam02, .jam12, .jam22, .jam32, .jam42, .jam52, .jam62, .jam72, .jam92, .jamB2, .jamD2, .jamF2], ∀ s : State,
    ∃ t, exec i s = .next t ∧ t.jammed = true ∧ t.cpu = s.cpu ∧ t.cycles = s.cycles ∧ SameStorage s t ∧ t.setJammed s.jammed = s

/-! ## The step (40_addressing_modes.md, 60_exceptions.md) -/

/-- R176 to R183: the effective addresses, the page crossings, the pointer reads and the dummy reads: of every mode the state its reads
leave is given, for indirect_y with the dummy read on a crossing (normal) or always (forced); and the pointer read of `indirect`, whose
high byte stays in the pointer's page.
Derived, because it rests on what the spec marks as its own or the model chose: R180 (where the dummy read falls); R176 to R179,
R182 and R183 carry no mark. -/
def Obligations.EffectiveAddresses : Prop :=
  (∀ d : Byte, (zeropage d).toNat = d.toNat) ∧
  (∀ d i : Byte, (zeropageIndexed d i).toNat = (d.toNat + i.toNat) % 256) ∧
  (∀ (w : Word) (i : Byte) (s : State),
    let ea := BitVec.ofNat 16 (w.toNat + i.toNat)
    let crossed := decide (ea.toNat / 256 ≠ w.toNat / 256)
    let dummy := (memRead (BitVec.ofNat 16 (w.toNat / 256 * 256 + (w.toNat + i.toNat) % 256)) s).2
    (indexNormal w i s).1.ea = ea ∧ (indexNormal w i s).1.crossed = crossed ∧
      (indexNormal w i s).2 = (if crossed then dummy else s) ∧
      (indexForced w i s).1.ea = ea ∧ (indexForced w i s).1.crossed = crossed ∧ (indexForced w i s).2 = dummy) ∧
  (∀ (d : Byte) (s : State),
    let ptr : Byte → Word := fun p => pair (s.site (.ram ((p.toNat + 1) % 256))) (s.site (.ram p.toNat))
    let readPtr : Byte → State := fun p => (memRead (BitVec.ofNat 16 ((p.toNat + 1) % 256)) (memRead (BitVec.ofNat 16 p.toNat) s).2).2
    let wrong := BitVec.ofNat 16 ((ptr d).toNat / 256 * 256 + ((ptr d).toNat + s.cpu.y.toNat) % 256)
    (indirectX d s).1 = ptr (d + s.cpu.x) ∧ (indirectX d s).2 = readPtr (d + s.cpu.x) ∧
      (indirectYNormal d s).1.ea = BitVec.ofNat 16 ((ptr d).toNat + s.cpu.y.toNat) ∧
      (indirectYForced d s).1.ea = BitVec.ofNat 16 ((ptr d).toNat + s.cpu.y.toNat) ∧
      (indirectYNormal d s).1.crossed = decide ((indirectYNormal d s).1.ea.toNat / 256 ≠ (ptr d).toNat / 256) ∧
      (indirectYForced d s).1.crossed = (indirectYNormal d s).1.crossed ∧
      (indirectYNormal d s).2 = (if (indirectYNormal d s).1.crossed then (memRead wrong (readPtr d)).2 else readPtr d) ∧
      (indirectYForced d s).2 = (memRead wrong (readPtr d)).2) ∧
  (∀ (w : Word) (s : State),
    let l := memRead w s
    let h := memRead (BitVec.ofNat 16 (w.toNat / 256 * 256 + (w.toNat + 1) % 256)) l.2
    indirect w s = (pair h.1 l.1, h.2))

/-- R170, R172, R187: with nothing pending, a step reads the instruction's bytes at PC in order and runs what they decode to.
Derived, because it rests on what the spec marks as its own or the model chose: R170, R187. -/
def Obligations.StepRunsDecodedInstruction : Prop :=
  ∀ (s : State) (n : Nat) (i : Instr), Ready s → s.irq.pending = .none →
    decode (fetchBytes n s.cpu.pc (s.setFrameReady false)).1 = .ok (i, []) →
    step s = exec i (fetchBytes n s.cpu.pc (s.setFrameReady false)).2

/-- R548, R549: a pending IRQ is serviced through 0xFFFE when I is 0; when I is 1 it is dropped and the step runs an
instruction, and with or without a stall the step is that of the machine that held no request.
Derived, because it rests on what the spec marks as its own or the model chose: R171 and decision D3 (the stall first), R548, R549,
R550, decisions D11 and D12. -/
def Obligations.IrqMaskedOrServiced : Prop :=
  (∀ s : State, Ready s → s.irq.pending = .irq → s.cpu.p.i = false → Enters (step s) s (served s) s.cpu.pc false 0xFFFE) ∧
  (∀ (s : State) (n : Nat) (i : Instr), Ready s → s.irq.pending = .irq → s.cpu.p.i = true →
    decode (fetchBytes n s.cpu.pc (clearPending (s.setFrameReady false))).1 = .ok (i, []) →
    step s = exec i (fetchBytes n s.cpu.pc (clearPending (s.setFrameReady false))).2) ∧
  (∀ s : State, s.started = true → s.jammed = false → s.irq.pending = .irq → s.cpu.p.i = true →
    step s = step { s with irq := { s.irq with pending := .none } })

/-- R548, R550: a pending NMI is serviced through 0xFFFA, whatever I holds.
Derived, because it rests on what the spec marks as its own or the model chose: R548, R550, R551, decision D11. -/
def Obligations.NmiServiced : Prop := ∀ s : State, Ready s → s.irq.pending = .nmi → Enters (step s) s (served s) s.cpu.pc false 0xFFFA

/-- R171: a stall is ticked away whole before the step's interrupt check, with no bus access: the state checked is that of so many CPU
cycles.
Derived, because it rests on what the spec marks as its own or the model chose: R171, decision D3. -/
def Obligations.StallConsumedFirst : Prop :=
  ∀ s : State, s.started = true → s.jammed = false → 0 < s.irq.stall →
    ∃ u, step s = dispatchStep u ∧ u = tick s.irq.stall { s with frameReady := false, irq := { s.irq with stall := 0 } } ∧
      u.cpu = s.cpu ∧ u.cycles = s.cycles + s.irq.stall ∧ u.irq.stall = 0 ∧ SameStorage s u ∧
      SamePort s u ∧ u.io = s.io ∧ u.bus.latch = s.bus.latch ∧ Kept s u

/-- R560, R595: a jammed machine has no step but the identity; a machine never reset is refused.
Derived, because it rests on what the spec marks as its own or the model chose: R560, decision D7; the model's form of both in
notes/assumptions/10.md and 11.md. -/
def Obligations.JammedAndUnstartedSteps : Prop :=
  (∀ s : State, s.started = true → s.jammed = true → step s = .next (s.setFrameReady false)) ∧
  (∀ s : State, s.started = false → step s = .refused .stepBeforeReset)

/-- From every started state a step completes, and the machine stays started: nothing faults and nothing is refused, for any number of
steps (R553; that a jammed machine's step is the identity is the model's choice).
Derived, because it rests on what the spec marks as its own or the model chose: that a jammed machine steps to itself is the model's
choice (R560, decision D7, notes/assumptions/10.md), and so is the flag started (R595, notes/assumptions/11.md); R553 carries no
mark. -/
def Obligations.StartedMachineRunsForever : Prop := ∀ (n : Nat) (s : State), s.started = true → SafeRun n s

/-! ## The invariant -/

/-- Every step keeps the invariant.
Derived, because it rests on what the spec marks as its own or the model chose: the ranges of R42, R50 to R64, R70 to R77; the
canonical form is the model's (notes/assumptions/1.md). -/
def Obligations.StepKeepsInv : Prop := ∀ s t : State, s.Inv → step s = .next t → t.Inv

/-- The machine of `State.reset` has the invariant. Its cartridge and its empty memories are the model's choice
(notes/assumptions/1.md, notes/assumptions/2.md).
Derived, because it rests on what the spec marks as its own or the model chose: notes/assumptions/1.md, 2.md, 4.md, 5.md. -/
def Obligations.ResetHasInv : Prop := State.reset.Inv

/-- R480, R482: construction is refused exactly for the four reasons, and a machine that is constructed from memories of the right
size has the invariant. That every other length is taken, an MMC1 image above 256 KB too, that the machine is not started, and the
canonical form of the memories are the model's choices.
Derived, because it rests on what the spec marks as its own or the model chose: R480, R482, R590, decisions D17, D20, D22, D42, D44;
the model's choices of notes/assumptions/24.md (MMC1 images above 256 KB), 11.md (started) and 1.md (the canonical form of the
memories). -/
def Obligations.ConstructionRefusesOrInv : Prop :=
  (∀ (r : Bool) (l : Launch) (c : Cartridge),
    (∃ s, construct r l c = .ok s) ↔
      c.mapperNumber ∈ [0, 1, 2, 3, 4, 7] ∧ c.mirroring ≠ .fourScreen ∧ c.prgLen ≠ 0 ∧ c.prgLen % 16384 = 0 ∧
        c.chrLen % 8192 = 0) ∧
  (∀ (r : Bool) (l : Launch) (c : Cartridge) (s : State), construct r l c = .ok s →
    Memory.ok 2048 l.ram = true → Memory.ok 2048 l.vram = true → Memory.ok 256 l.oam = true → Memory.ok 32 l.palette = true →
    Memory.ok c.prgLen c.prg = true → Memory.ok (if c.chrLen = 0 then 8192 else c.chrLen) c.chr = true →
    Memory.ok 8192 c.sram = true → s.Inv ∧ s.started = false)

/-- R591: what `reset()` leaves, for every `RESET_I` and `RESET_CYCLES`: before its cycles pass the PPU and the cartridge, mapper registers
and all, are untouched, and the bus latch holds the second vector byte.
Derived, because it rests on what the spec marks as its own or the model chose: R591, decisions D9, D10 and D43;
notes/assumptions/4.md, and notes/assumptions/11.md for the flag started. -/
def Obligations.HostResetLeaves : Prop :=
  ∀ (r : Bool) (n : Nat) (s : State),
    (hostReset r n s).cpu =
        { a := 0, x := 0, y := 0, sp := 0xFD, pc := pair (s.cart.cpuRead 0xFFFD) (s.cart.cpuRead 0xFFFC),
          p := { c := false, z := false, i := r, d := false, v := false, n := false } } ∧
      (hostReset r 0 s).ppu = s.ppu ∧ (hostReset r 0 s).cart = s.cart ∧
      (hostReset r 0 s).bus = { s.bus with latch := s.cart.cpuRead 0xFFFD, latchAge := 0 } ∧
      (hostReset r 0 s).irq = { pending := .none, nmiDelay := .none, stall := 0 } ∧
      (hostReset r n s) = tick n (hostReset r 0 s) ∧
      (hostReset r n s).jammed = false ∧ (hostReset r n s).started = true ∧ (hostReset r n s).cycles = s.cycles + n ∧
      SameStorage s (hostReset r n s) ∧ SamePort s (hostReset r n s) ∧ (hostReset r n s).io = s.io

/-! ## Encoding (30_encoding.md) -/

/-- Decoding an encoded instruction gives it back, whatever bytes follow.
Derived, because it rests on what the spec marks as its own or the model chose: R145. -/
def Obligations.DecodeEncodeAgree : Prop := ∀ (i : Instr) (rest : List Byte), decode (encode i ++ rest) = .ok (i, rest)

/-- R147: no byte value is refused: an opcode byte followed by two more always decodes. What decodes re-encodes to the same bytes, so
each byte sequence has one meaning; and a sequence is refused only when it is too short. -/
def Obligations.EncodeDecodeAgree : Prop :=
  (∀ (op b1 b2 : Byte) (rest : List Byte), ∃ i r, decode (op :: b1 :: b2 :: rest) = .ok (i, r)) ∧
  ∀ bytes : List Byte,
    match decode bytes with
    | .ok (i, rest) => encode i ++ rest = bytes
    | .error _ => ∀ i rest, encode i ++ rest ≠ bytes

/-- R145: a few words of the table, read by the decoder.
Derived, because it rests on what the spec marks as its own or the model chose: R145. -/
def Obligations.DecodeSampleWords : Prop :=
  decode [0xA9#8, 0x50#8] = .ok (.ldaImmediate 0x50, []) ∧ decode [0x69#8, 0x50#8] = .ok (.adcImmediate 0x50, []) ∧
    decode [0x6C#8, 0xFF#8, 0x02#8] = .ok (.jmpIndirect 0x02FF, []) ∧ decode [0x9D#8, 0x00#8, 0x20#8] = .ok (.staAbsoluteX 0x2000, []) ∧
    decode [0x0A#8] = .ok (.aslAccumulator, []) ∧ decode [0x00#8, 0xFF#8] = .ok (.brk, [0xFF#8]) ∧
    decode [0xD0#8, 0xF9#8] = .ok (.bne 0xF9, []) ∧ decode [0x28#8] = .ok (.plp, []) ∧
    decode [0xB3#8, 0x10#8] = .ok (.laxIndirectY 0x10, []) ∧ decode [0xF2#8] = .ok (.jamF2, []) ∧
    decode [0x8D#8, 0x14#8] = .error (.missingOperand 0x8D) ∧ decode [] = .error .empty

/-! ## The bus (20_memory.md) -/

/-- R93: RAM is one store of 2048 bytes under four images. -/
def Obligations.RamIsMirrored : Prop :=
  ∀ (s : State) (a b : Word) (v : Byte), s.Inv → a.toNat < 0x2000 → b.toNat < 0x2000 →
    (memRead b (memWrite a v s)).1 = if a.toNat % 0x800 = b.toNat % 0x800 then v else (memRead b s).1

/-- R104 to R107: a push writes its byte at the stack cell of SP and leaves SP one less, for every SP; a pop after it gives the byte and
the registers back; a pop by itself reads the cell of SP + 1; a word is pushed high byte first, two pops give its low byte, then its
high byte, and `PopWord` gives the word and leaves SP where it was.
Derived, because it rests on what the spec marks as its own or the model chose: R105 (derived by the spec from R104 and R107); R104,
R106 and R107 carry no mark. -/
def Obligations.StackRoundTrip : Prop :=
  (∀ (s : State) (b : Byte),
    (push b s).cpu = { s.cpu with sp := s.cpu.sp - 1 } ∧ SameStorageBut [stackSite s.cpu.sp] s (push b s) ∧
      (s.Inv → (push b s).site (stackSite s.cpu.sp) = b ∧ (pop (push b s)).1 = b ∧ (pop (push b s)).2.cpu = s.cpu)) ∧
  (∀ s : State,
    (pop s).1 = s.site (stackSite (s.cpu.sp + 1)) ∧ (pop s).2.cpu = { s.cpu with sp := s.cpu.sp + 1 } ∧ SameStorage s (pop s).2) ∧
  (∀ (s : State) (w : Word),
    let u := pushWord w s
    u = push (byte w.toNat) (push (byte (w.toNat / 256)) s) ∧
      (s.Inv → (pop u).1 = byte w.toNat ∧ (pop (pop u).2).1 = byte (w.toNat / 256) ∧ (popWord u).1 = w ∧
        (popWord u).2.cpu = s.cpu))

/-- R95, R98, R99, R100, R115, R383, R384: an open-bus read returns the latch, or 0 once it has decayed, and changes nothing; the low
five bits of a status read come from the same place. The addresses of the external port are no open bus: an access there is an event
of its own. Nor are the eight addresses outside the map, which read 0x00.
Derived, because it rests on what the spec marks as its own or the model chose: R95 (from general knowledge, D27), R98 (D27), R99
(D6), R100 (D32), R383 (from general knowledge), R384 (D34); the queue of answers and its free value in notes/assumptions/7.md; R115
carries no mark. -/
def Obligations.OpenBusReads : Prop :=
  (∀ (s : State) (a : Word),
    (0x2000 ≤ a.toNat ∧ a.toNat < 0x4000 ∧ a.toNat % 8 ∈ [0, 1, 3, 5, 6]) ∨ a.toNat = 0x4014 ∨
      (0x4020 ≤ a.toNat ∧ a.toNat < 0x6000) →
    memRead a s = (if s.bus.latchAge < s.openBusDecay then s.bus.latch else 0, s)) ∧
  (∀ (s : State) (a : Word), 0x2000 ≤ a.toNat ∧ a.toNat < 0x4000 ∧ a.toNat % 8 = 2 →
    (memRead a s).1.toNat % 32 = if s.bus.latchAge < s.openBusDecay then s.bus.latch.toNat % 32 else 0) ∧
  ExternalPort ∧ OutsideTheMap

/-- R112: OAM DMA from a page of RAM, battery RAM or ROM copies its 256 bytes from `oamAddr` on; from any page it leaves `oamAddr`
where it was, adds 513 or 514 to the stall by the parity of `cycles`, and changes no cell outside OAM.
Derived, because it rests on what the spec marks as its own or the model chose: R112, decision D4. -/
def Obligations.OamDmaCopiesPage : Prop :=
  ∀ (s : State) (page : Byte),
    (memWrite 0x4014 page s).ppu.oamAddr = s.ppu.oamAddr ∧
      (memWrite 0x4014 page s).irq.stall = s.irq.stall + (if s.cycles % 2 = 0 then 513 else 514) ∧
      SameStorageBut ((List.range 256).map .oam) s (memWrite 0x4014 page s) ∧
      (s.Inv → page.toNat < 0x20 ∨ 0x60 ≤ page.toNat → ∀ i < 256,
        (memWrite 0x4014 page s).site (.oam ((s.ppu.oamAddr.toNat + i) % 256)) = (memRead (BitVec.ofNat 16 (256 * page.toNat + i)) s).1)

/-- R613, R371, R401: `n` CPU cycles move the PPU by `3 n` positions in a frame of 341 times 262; the PPU cycle at the last position
exchanges the frame buffers and reports the frame, and no other PPU cycle does.
Derived, because it rests on what the spec marks as its own or the model chose: R371, R401, R613, decisions D23 and D29. -/
def Obligations.TickMovesPosition : Prop :=
  (∀ (n : Nat) (s : State), s.Inv → position (tick n s) = (position s + 3 * n) % (341 * 262)) ∧
  (∀ s : State,
    (s.ppu.scanline = 261 ∧ s.ppu.cycle = 340 → (ppuDot s).ppu.front = s.ppu.back ∧ (ppuDot s).ppu.back = s.ppu.front ∧
      (ppuDot s).frameReady = true ∧ position (ppuDot s) = 0) ∧
    (¬ (s.ppu.scanline = 261 ∧ s.ppu.cycle = 340) → (ppuDot s).frameReady = s.frameReady ∧ (ppuDot s).ppu.front = s.ppu.front))

/-! ## The PPU (47_ppu_registers_timing.md, 48_ppu_rendering.md) -/

/-- R384: a status read, exactly.
Derived, because it rests on what the spec marks as its own or the model chose: R384, decision D34. -/
def Obligations.StatusReadEffects : Prop :=
  ∀ (s : State) (a : Word), 0x2000 ≤ a.toNat → a.toNat < 0x4000 → a.toNat % 8 = 2 →
    let bus := if s.bus.latchAge < s.openBusDecay then s.bus.latch.toNat else 0
    let b := byte (128 * num s.ppu.vblank + 64 * num s.ppu.sprite0Hit + 32 * num s.ppu.spriteOverflow + bus % 32)
    let delay := match s.irq.nmiDelay with
      | .delayed n => if s.ppu.vblank then NmiDelay.canceled else .delayed n
      | d => d
    memRead a s =
      (b, { s with ppu := { s.ppu with vblank := false, w := false }
                   irq := { s.irq with nmiDelay := delay }
                   bus := { s.bus with latch := b, latchAge := 0 } })

/-- R381 to R389, R547: the whole write side of the register port but the data port: registers 0 to 4, the rising edge of the NMI enable,
and the two-write ports, first and second write, over the fields of `t`; and the read of register 4.
Derived, because it rests on what the spec marks as its own or the model chose: R381 (D25), R382 (D39), R383, R385, R386 (D35),
R387, R388 and R389 (from general knowledge), R547 (D2, D25). -/
def Obligations.ScrollAndAddressPort : Prop :=
  PortRegisters ∧
  ∀ (s : State) (a : Word) (d : Byte), 0x2000 ≤ a.toNat → a.toNat < 0x4000 →
    let t := s.ppu.t.toNat
    let set : Ppu → State := fun p => (s.drive d).setPpu p
    (a.toNat % 8 = 5 → s.ppu.w = false → memWrite a d s =
      set { s.ppu with t := BitVec.ofNat 15 (t / 32 * 32 + d.toNat / 8), fineX := BitVec.ofNat 3 d.toNat, w := true }) ∧
    (a.toNat % 8 = 5 → s.ppu.w = true → memWrite a d s =
      set { s.ppu with t := BitVec.ofNat 15 (t % 32 + 32 * (d.toNat / 8) + 1024 * (t / 1024 % 4) + 4096 * (d.toNat % 8)), w := false }) ∧
    (a.toNat % 8 = 6 → s.ppu.w = false → memWrite a d s =
      set { s.ppu with t := BitVec.ofNat 15 (t % 256 + 256 * (d.toNat % 64)), w := true }) ∧
    (a.toNat % 8 = 6 → s.ppu.w = true → memWrite a d s =
      set { s.ppu with t := BitVec.ofNat 15 (t / 256 * 256 + d.toNat), v := BitVec.ofNat 15 (t / 256 * 256 + d.toNat), w := false })

/-- R124, R125, R390, R391, R392: the data port. A read returns the buffer below 0x3F00 and the palette entry above, refills the buffer
from the mapper or the nametable, and advances `v`; a write puts its byte in the one cell it reaches, advances `v` and changes nothing
else but the bus latch. Nametable and palette addresses are stored where the mirroring table and the palette aliases say.
Derived, because it rests on what the spec marks as its own or the model chose: R124 (the single-screen rows, from general knowledge
and D17), R391, R392, decisions D39 and D40; R125 carries no mark. -/
def Obligations.DataPortAccess : Prop :=
  PpuIndexes ∧
  ∀ (s : State) (a : Word), 0x2000 ≤ a.toNat → a.toNat < 0x4000 → a.toNat % 8 = 7 →
    let va := s.ppu.v.toNat % 0x4000
    let v' := BitVec.ofNat 15 (s.ppu.v.toNat + if s.ppu.ctrlIncrement then 32 else 1)
    (∀ b, (b = if va < 0x3F00 then s.ppu.readBuffer else s.ppu.palette.read (palIndex va)) →
      memRead a s =
        (b, (s.setPpu { s.ppu with
          v := v'
          readBuffer :=
            if va < 0x2000 then s.cart.ppuRead va
            else s.ppu.vram.read (ntIndex s.cart.mirroring (if va < 0x3F00 then va else va - 0x1000)) }).drive b)) ∧
    (∀ d : Byte,
      memWrite a d s =
        { s.drive d with
          ppu := { s.ppu with
            v := v'
            vram := if 0x2000 ≤ va ∧ va < 0x3F00 then s.ppu.vram.write (ntIndex s.cart.mirroring va) d else s.ppu.vram
            palette := if 0x3F00 ≤ va then s.ppu.palette.write (palIndex va) d else s.ppu.palette }
          cart := if va < 0x2000 then s.cart.ppuWrite va d else s.cart } ∧
      SameStorageBut (dataPortSites s) s (memWrite a d s) ∧ (s.Inv → ∀ x ∈ dataPortSites s, (memWrite a d s).site x = d))

/-- R400 to R403: what a PPU cycle does to the vblank flag and the NMI delay: the vblank start at (241, 1), the pre-render clear at
(261, 1), and nothing at any other position; and the positions at which it draws a pixel, evaluates the sprites and empties their
cache.
Derived, because it rests on what the spec marks as its own or the model chose: decision D2 (that (261, 1) ends a cancellation, in
R403 and R547), R400 (D13, and the order of its parts from general knowledge), R401, R450 (D15: all at cycle 257), R467 (D16: a
pixel whatever the mask holds), R545 (the 14); R402 carries no mark. -/
def Obligations.PpuCycleEvents : Prop :=
  PixelsAndSprites ∧
  ∀ s : State,
    (s.ppu.scanline = 241 ∧ s.ppu.cycle = 1 → (ppuDot s).ppu.vblank = true ∧
      (ppuDot s).irq.nmiDelay =
        (if s.ppu.ctrlNmiEnable = true ∧ s.irq.nmiDelay ≠ .canceled then .delayed 14 else s.irq.nmiDelay)) ∧
    (s.ppu.scanline = 261 ∧ s.ppu.cycle = 1 → (ppuDot s).ppu.vblank = false ∧ (ppuDot s).ppu.sprite0Hit = false ∧
      (ppuDot s).ppu.spriteOverflow = false ∧
      (ppuDot s).irq.nmiDelay = (if s.irq.nmiDelay = .canceled then .none else s.irq.nmiDelay)) ∧
    (¬ (s.ppu.scanline = 241 ∧ s.ppu.cycle = 1) → ¬ (s.ppu.scanline = 261 ∧ s.ppu.cycle = 1) →
      (ppuDot s).ppu.vblank = s.ppu.vblank ∧ (ppuDot s).irq.nmiDelay = s.irq.nmiDelay)

/-- R546: an NMI delay of `n` counts down once a CPU cycle and makes an NMI pending in the `n`-th, from every position from which none of
the `3 n` PPU cycles is the vblank start (the one PPU cycle that can schedule an NMI anew).
Derived, because it rests on what the spec marks as its own or the model chose: R400 (D13), R546, decisions D1 and D2. -/
def Obligations.NmiDelayRunsOut : Prop :=
  ∀ (s : State) (n : Nat), s.Inv → 1 ≤ n → s.irq.nmiDelay = .delayed n →
    (∀ j < 3 * n, (position s + j) % (341 * 262) ≠ vblankStart) →
    (∀ k < n, (tick k s).irq.nmiDelay = .delayed (n - k)) ∧ (tick n s).irq.nmiDelay = .none ∧ (tick n s).irq.pending = .nmi

/-- R400, R404 to R407, R430 to R438: the scroll updates, over the fields of `v` and `t`, the positions at which a PPU cycle makes them, and
the fetch micro-sequence with the shift and load of the background buffer.
Derived, because it rests on what the spec marks as its own or the model chose: R400 (D13, and the order of its parts from general
knowledge), R405, R406, R432 to R436 and R438 (from general knowledge), R437 (D14); R404, R407 and R431 carry no mark. -/
def Obligations.ScrollUpdates : Prop :=
  ScrollPositions ∧ BackgroundFetch ∧
  ∀ p : Ppu,
    (let q := p.incCoarseX
     coarseX q.v = (if coarseX p.v = 31 then 0 else coarseX p.v + 1) ∧
       tableX q.v = (if coarseX p.v = 31 then 1 - tableX p.v else tableX p.v) ∧
       coarseY q.v = coarseY p.v ∧ tableY q.v = tableY p.v ∧ fineY q.v = fineY p.v) ∧
    (let q := p.incY
     fineY q.v = (if fineY p.v < 7 then fineY p.v + 1 else 0) ∧
       coarseY q.v = (if fineY p.v < 7 then coarseY p.v else if coarseY p.v = 29 ∨ coarseY p.v = 31 then 0 else coarseY p.v + 1) ∧
       tableY q.v = (if fineY p.v = 7 ∧ coarseY p.v = 29 then 1 - tableY p.v else tableY p.v) ∧
       coarseX q.v = coarseX p.v ∧ tableX q.v = tableX p.v) ∧
    (let q := p.copyX
     coarseX q.v = coarseX p.t ∧ tableX q.v = tableX p.t ∧ coarseY q.v = coarseY p.v ∧ tableY q.v = tableY p.v ∧
       fineY q.v = fineY p.v) ∧
    (let q := p.copyY
     coarseX q.v = coarseX p.v ∧ tableX q.v = tableX p.v ∧ coarseY q.v = coarseY p.t ∧ tableY q.v = tableY p.t ∧
       fineY q.v = fineY p.t)

/-- R450 to R453: the evaluator caches the first eight sprites in range in OAM order, each with its pattern row, and a ninth sets the
overflow flag.
Derived, because it rests on what the spec marks as its own or the model chose: R450, R451, R452, R453, decisions D15 and D28. -/
def Obligations.SpriteEvaluation : Prop :=
  ∀ (p : Ppu) (c : Cart) (s : Nat), SpriteCacheInv p →
    (p.evaluateSprites c s).spriteCount = min 8 (inRange p s).length ∧
      (p.evaluateSprites c s).spriteOverflow = (p.spriteOverflow || decide (8 < (inRange p s).length)) ∧
      ∀ k i, k < 8 → (inRange p s)[k]? = some i →
        ∃ e, (p.evaluateSprites c s).sprites[k]? = some e ∧ e.index = i ∧ e.sx = p.oam.read (4 * i + 3) ∧
          e.pattern = BitVec.ofNat 32 (spriteRow p c s i) ∧ e.behind = decide ((p.oam.read (4 * i + 2)).toNat / 32 % 2 = 1)

/-- R460 to R467: the pixel written, the pixels left alone, and the sprite-zero hit.
Derived, because it rests on what the spec marks as its own or the model chose: R464 (D37: the hit also at column 255), R465 (the
clipping, from general knowledge), R466 (D39: six bits), R467 (D16: the backdrop with rendering disabled); R460 to R462 carry no
mark. -/
def Obligations.PixelComposited : Prop :=
  ∀ (p : Ppu) (px py : Nat), Frame.ok p.back = true → px < 256 → py < 240 →
    (p.renderPixel px py).back.pixel px py = byte ((p.palette.read (palIndex (0x3F00 + pixelIndex p px))).toNat % 64) ∧
      (∀ x y, (x, y) ≠ (px, py) → (p.renderPixel px py).back.pixel x y = p.back.pixel x y) ∧
      ((p.renderPixel px py).sprite0Hit = true ↔
        p.sprite0Hit = true ∨ (background p px % 4 ≠ 0 ∧ ∃ sp, foreground p px = some sp ∧ sp.index = 0))

/-! ## Mappers (49_mappers.md) -/

/-- R91, R92, R100, R114, R484 to R486, R490 to R493, R510, R511, R522, R523: which accesses reach the mapper, what each of the six
variants shows in its PRG and CHR windows, and what a CPU write to the window of NROM, UxROM, CNROM and AxROM does. So the window that
holds the vectors shows the last bank of the image, whatever the program has written, in UxROM, in MMC1 with PRG mode 3 and in MMC3,
and NROM shows the image as it is, 16 KB twice.
Derived, because it rests on what the spec marks as its own or the model chose: R100 (D32), R484 (D24, D32), R485 (D47), R486 (D33),
R490 to R493 (from general knowledge; R493 also D46), R510, R511, R522, R523 (from general knowledge); for AxROM with an odd number
of 16 KB pages, the rounded number of banks and the free value of notes/assumptions/8.md; MMC1 images above 256 KB in
notes/assumptions/24.md. -/
def Obligations.VectorWindowFixed : Prop :=
  MapperReached ∧ PrgWindows ∧ ChrWindows ∧ BoardRegisters ∧
  ∀ (c : Cart) (a : Nat), CartInv c → 0xE000 ≤ a → a < 0x10000 →
    ((∃ b, c.mapper = .uxrom b) ∨ (∃ m, c.mapper = .mmc1 m ∧ m.control.toNat / 4 % 4 = 3) ∨ (∃ m, c.mapper = .mmc3 m) ∨
        (c.mapper = .nrom ∧ c.prgLen ≤ 0x8000) →
      c.cpuRead a = c.prg.read (c.prgLen + a - 0x10000))

/-- R501, R502: five writes with bit 7 clear commit their low bits, first bit lowest, to the register the fifth address selects; a
write with bit 7 set discards what was collected and sets the PRG mode bits.
Derived, because it rests on what the spec marks as its own or the model chose: R501, R502, decisions D38 and D49; that bit 4 of the
PRG register is not kept: notes/assumptions/23.md. -/
def Obligations.Mmc1SerialWrites : Prop :=
  (∀ (c : Cart) (m : Mmc1) (a1 a2 a3 a4 a5 : Nat) (d1 d2 d3 d4 d5 : Byte),
    CartInv c → c.mapper = .mmc1 m → m.shiftCount = 0 → 0x8000 ≤ a1 → 0x8000 ≤ a2 → 0x8000 ≤ a3 → 0x8000 ≤ a4 → 0x8000 ≤ a5 →
    d1.toNat < 128 → d2.toNat < 128 → d3.toNat < 128 → d4.toNat < 128 → d5.toNat < 128 →
    let v := d1.toNat % 2 + 2 * (d2.toNat % 2) + 4 * (d3.toNat % 2) + 8 * (d4.toNat % 2) + 16 * (d5.toNat % 2)
    let r := ((((c.cpuWrite a1 d1).cpuWrite a2 d2).cpuWrite a3 d3).cpuWrite a4 d4).cpuWrite a5 d5
    r = if a5 < 0xA000 then
          { c with mapper := .mmc1 { m with control := BitVec.ofNat 5 v }
                   mirroring := if v % 4 = 0 then .single0 else if v % 4 = 1 then .single1 else if v % 4 = 2 then .vertical
                     else .horizontal }
        else if a5 < 0xC000 then { c with mapper := .mmc1 { m with chrBank0 := BitVec.ofNat 5 v } }
        else if a5 < 0xE000 then { c with mapper := .mmc1 { m with chrBank1 := BitVec.ofNat 5 v } }
        else { c with mapper := .mmc1 { m with prgBank := BitVec.ofNat 4 v } }) ∧
  (∀ (c : Cart) (m : Mmc1) (a : Nat) (d : Byte), c.mapper = .mmc1 m → 0x8000 ≤ a → 128 ≤ d.toNat →
    ∃ m', c.cpuWrite a d = { c with mapper := .mmc1 m' } ∧ m'.shiftCount = 0 ∧ m'.shiftValue = 0 ∧
      m'.control.toNat / 4 % 4 = 3 ∧ m'.control.toNat % 4 = m.control.toNat % 4 ∧
      m'.control.toNat / 16 = m.control.toNat / 16 ∧ m'.chrBank0 = m.chrBank0 ∧ m'.chrBank1 = m.chrBank1 ∧ m'.prgBank = m.prgBank)

/-- R111, R521, R530, R531, R542, R546: the registers of MMC3, the PPU cycles that clock its counter, and what a CPU cycle leaves in the
interrupt slot. A counter at zero is reloaded with the latch by the first clock and then counts down; the line is asserted by the
clock that reaches zero, and never when the latch is 0.
Derived, because it rests on what the spec marks as its own or the model chose: R111 (D30), R521 (from general knowledge, and D19;
that the byte of 0xA001 is not kept: notes/assumptions/23.md), R530 (D18, D48), R531 (D12), R541 and R542 (D31; that the level is
latched whatever I holds: R542, notes/assumptions/9.md), R546 (D1). -/
def Obligations.Mmc3CounterAsserts : Prop :=
  Mmc3Registers ∧ ScanlineClocks ∧ SlotFilled ∧
  ∀ (m : Mmc3) (k : Nat), m.irqCounter = 0 → m.irqLine = false → m.irqEnable = true → k ≤ m.irqLatch.toNat →
    (clocks (k + 1) m).irqCounter.toNat = m.irqLatch.toNat - k ∧
      (clocks (k + 1) m).irqLine = decide (0 < k ∧ k = m.irqLatch.toNat)
end

