-- ==== Sys2Proof/Laws/PerInstr.lean ====
section
/-! SUPPORT. Facts about every instruction as syntax, one lemma for each constructor: its encoding is as long as its row of the
opcode table says, and it is well formed. -/

namespace Sys2Proof.Laws.Coded

/-- The bytes of an instruction are one instruction, as many as its row of the opcode table says (30_encoding.md R140, R145). -/
def Statement (i : Instr) : Prop := i.WellFormed = true ∧ (encode i).length = i.row.length

/-- What each lemma below supplies: the encoding, and that its length is the row's. -/
theorem of_encode (i : Instr) (op : Byte) (rest : List Byte) (h : encode i = op :: rest)
    (hl : rest.length + 1 = (opcodeRow op).length) : Statement i := by
  refine ⟨?_, ?_⟩
  · show wellFormedBytes (encode i) = true
    rw [h]
    exact decide_eq_true (show rest.length = (opcodeRow op).length - 1 by omega)
  · show (encode i).length = (opcodeRow ((encode i).headD 0)).length
    rw [h]
    exact hl

theorem oraIndirectX (d : Byte) : Statement (.oraIndirectX d) := of_encode _ 0x01#8 [d] rfl rfl
theorem sloIndirectX (d : Byte) : Statement (.sloIndirectX d) := of_encode _ 0x03#8 [d] rfl rfl
theorem nopZeropage04 (d : Byte) : Statement (.nopZeropage04 d) := of_encode _ 0x04#8 [d] rfl rfl
theorem oraZeropage (d : Byte) : Statement (.oraZeropage d) := of_encode _ 0x05#8 [d] rfl rfl
theorem aslZeropage (d : Byte) : Statement (.aslZeropage d) := of_encode _ 0x06#8 [d] rfl rfl
theorem sloZeropage (d : Byte) : Statement (.sloZeropage d) := of_encode _ 0x07#8 [d] rfl rfl
theorem oraImmediate (d : Byte) : Statement (.oraImmediate d) := of_encode _ 0x09#8 [d] rfl rfl
theorem ancImmediate0B (d : Byte) : Statement (.ancImmediate0B d) := of_encode _ 0x0B#8 [d] rfl rfl
theorem bpl (d : Byte) : Statement (.bpl d) := of_encode _ 0x10#8 [d] rfl rfl
theorem oraIndirectY (d : Byte) : Statement (.oraIndirectY d) := of_encode _ 0x11#8 [d] rfl rfl
theorem sloIndirectY (d : Byte) : Statement (.sloIndirectY d) := of_encode _ 0x13#8 [d] rfl rfl
theorem nopZeropageX14 (d : Byte) : Statement (.nopZeropageX14 d) := of_encode _ 0x14#8 [d] rfl rfl
theorem oraZeropageX (d : Byte) : Statement (.oraZeropageX d) := of_encode _ 0x15#8 [d] rfl rfl
theorem aslZeropageX (d : Byte) : Statement (.aslZeropageX d) := of_encode _ 0x16#8 [d] rfl rfl
theorem sloZeropageX (d : Byte) : Statement (.sloZeropageX d) := of_encode _ 0x17#8 [d] rfl rfl
theorem andIndirectX (d : Byte) : Statement (.andIndirectX d) := of_encode _ 0x21#8 [d] rfl rfl
theorem rlaIndirectX (d : Byte) : Statement (.rlaIndirectX d) := of_encode _ 0x23#8 [d] rfl rfl
theorem bitZeropage (d : Byte) : Statement (.bitZeropage d) := of_encode _ 0x24#8 [d] rfl rfl
theorem andZeropage (d : Byte) : Statement (.andZeropage d) := of_encode _ 0x25#8 [d] rfl rfl
theorem rolZeropage (d : Byte) : Statement (.rolZeropage d) := of_encode _ 0x26#8 [d] rfl rfl
theorem rlaZeropage (d : Byte) : Statement (.rlaZeropage d) := of_encode _ 0x27#8 [d] rfl rfl
theorem andImmediate (d : Byte) : Statement (.andImmediate d) := of_encode _ 0x29#8 [d] rfl rfl
theorem ancImmediate2B (d : Byte) : Statement (.ancImmediate2B d) := of_encode _ 0x2B#8 [d] rfl rfl
theorem bmi (d : Byte) : Statement (.bmi d) := of_encode _ 0x30#8 [d] rfl rfl
theorem andIndirectY (d : Byte) : Statement (.andIndirectY d) := of_encode _ 0x31#8 [d] rfl rfl
theorem rlaIndirectY (d : Byte) : Statement (.rlaIndirectY d) := of_encode _ 0x33#8 [d] rfl rfl
theorem nopZeropageX34 (d : Byte) : Statement (.nopZeropageX34 d) := of_encode _ 0x34#8 [d] rfl rfl
theorem andZeropageX (d : Byte) : Statement (.andZeropageX d) := of_encode _ 0x35#8 [d] rfl rfl
theorem rolZeropageX (d : Byte) : Statement (.rolZeropageX d) := of_encode _ 0x36#8 [d] rfl rfl
theorem rlaZeropageX (d : Byte) : Statement (.rlaZeropageX d) := of_encode _ 0x37#8 [d] rfl rfl
theorem eorIndirectX (d : Byte) : Statement (.eorIndirectX d) := of_encode _ 0x41#8 [d] rfl rfl
theorem sreIndirectX (d : Byte) : Statement (.sreIndirectX d) := of_encode _ 0x43#8 [d] rfl rfl
theorem nopZeropage44 (d : Byte) : Statement (.nopZeropage44 d) := of_encode _ 0x44#8 [d] rfl rfl
theorem eorZeropage (d : Byte) : Statement (.eorZeropage d) := of_encode _ 0x45#8 [d] rfl rfl
theorem lsrZeropage (d : Byte) : Statement (.lsrZeropage d) := of_encode _ 0x46#8 [d] rfl rfl
theorem sreZeropage (d : Byte) : Statement (.sreZeropage d) := of_encode _ 0x47#8 [d] rfl rfl
theorem eorImmediate (d : Byte) : Statement (.eorImmediate d) := of_encode _ 0x49#8 [d] rfl rfl
theorem alrImmediate (d : Byte) : Statement (.alrImmediate d) := of_encode _ 0x4B#8 [d] rfl rfl
theorem bvc (d : Byte) : Statement (.bvc d) := of_encode _ 0x50#8 [d] rfl rfl
theorem eorIndirectY (d : Byte) : Statement (.eorIndirectY d) := of_encode _ 0x51#8 [d] rfl rfl
theorem sreIndirectY (d : Byte) : Statement (.sreIndirectY d) := of_encode _ 0x53#8 [d] rfl rfl
theorem nopZeropageX54 (d : Byte) : Statement (.nopZeropageX54 d) := of_encode _ 0x54#8 [d] rfl rfl
theorem eorZeropageX (d : Byte) : Statement (.eorZeropageX d) := of_encode _ 0x55#8 [d] rfl rfl
theorem lsrZeropageX (d : Byte) : Statement (.lsrZeropageX d) := of_encode _ 0x56#8 [d] rfl rfl
theorem sreZeropageX (d : Byte) : Statement (.sreZeropageX d) := of_encode _ 0x57#8 [d] rfl rfl
theorem adcIndirectX (d : Byte) : Statement (.adcIndirectX d) := of_encode _ 0x61#8 [d] rfl rfl
theorem rraIndirectX (d : Byte) : Statement (.rraIndirectX d) := of_encode _ 0x63#8 [d] rfl rfl
theorem nopZeropage64 (d : Byte) : Statement (.nopZeropage64 d) := of_encode _ 0x64#8 [d] rfl rfl
theorem adcZeropage (d : Byte) : Statement (.adcZeropage d) := of_encode _ 0x65#8 [d] rfl rfl
theorem rorZeropage (d : Byte) : Statement (.rorZeropage d) := of_encode _ 0x66#8 [d] rfl rfl
theorem rraZeropage (d : Byte) : Statement (.rraZeropage d) := of_encode _ 0x67#8 [d] rfl rfl
theorem adcImmediate (d : Byte) : Statement (.adcImmediate d) := of_encode _ 0x69#8 [d] rfl rfl
theorem arrImmediate (d : Byte) : Statement (.arrImmediate d) := of_encode _ 0x6B#8 [d] rfl rfl
theorem bvs (d : Byte) : Statement (.bvs d) := of_encode _ 0x70#8 [d] rfl rfl
theorem adcIndirectY (d : Byte) : Statement (.adcIndirectY d) := of_encode _ 0x71#8 [d] rfl rfl
theorem rraIndirectY (d : Byte) : Statement (.rraIndirectY d) := of_encode _ 0x73#8 [d] rfl rfl
theorem nopZeropageX74 (d : Byte) : Statement (.nopZeropageX74 d) := of_encode _ 0x74#8 [d] rfl rfl
theorem adcZeropageX (d : Byte) : Statement (.adcZeropageX d) := of_encode _ 0x75#8 [d] rfl rfl
theorem rorZeropageX (d : Byte) : Statement (.rorZeropageX d) := of_encode _ 0x76#8 [d] rfl rfl
theorem rraZeropageX (d : Byte) : Statement (.rraZeropageX d) := of_encode _ 0x77#8 [d] rfl rfl
theorem nopImmediate80 (d : Byte) : Statement (.nopImmediate80 d) := of_encode _ 0x80#8 [d] rfl rfl
theorem staIndirectX (d : Byte) : Statement (.staIndirectX d) := of_encode _ 0x81#8 [d] rfl rfl
theorem nopImmediate82 (d : Byte) : Statement (.nopImmediate82 d) := of_encode _ 0x82#8 [d] rfl rfl
theorem saxIndirectX (d : Byte) : Statement (.saxIndirectX d) := of_encode _ 0x83#8 [d] rfl rfl
theorem styZeropage (d : Byte) : Statement (.styZeropage d) := of_encode _ 0x84#8 [d] rfl rfl
theorem staZeropage (d : Byte) : Statement (.staZeropage d) := of_encode _ 0x85#8 [d] rfl rfl
theorem stxZeropage (d : Byte) : Statement (.stxZeropage d) := of_encode _ 0x86#8 [d] rfl rfl
theorem saxZeropage (d : Byte) : Statement (.saxZeropage d) := of_encode _ 0x87#8 [d] rfl rfl
theorem nopImmediate89 (d : Byte) : Statement (.nopImmediate89 d) := of_encode _ 0x89#8 [d] rfl rfl
theorem aneImmediate (d : Byte) : Statement (.aneImmediate d) := of_encode _ 0x8B#8 [d] rfl rfl
theorem bcc (d : Byte) : Statement (.bcc d) := of_encode _ 0x90#8 [d] rfl rfl
theorem staIndirectY (d : Byte) : Statement (.staIndirectY d) := of_encode _ 0x91#8 [d] rfl rfl
theorem shaIndirectY (d : Byte) : Statement (.shaIndirectY d) := of_encode _ 0x93#8 [d] rfl rfl
theorem styZeropageX (d : Byte) : Statement (.styZeropageX d) := of_encode _ 0x94#8 [d] rfl rfl
theorem staZeropageX (d : Byte) : Statement (.staZeropageX d) := of_encode _ 0x95#8 [d] rfl rfl
theorem stxZeropageY (d : Byte) : Statement (.stxZeropageY d) := of_encode _ 0x96#8 [d] rfl rfl
theorem saxZeropageY (d : Byte) : Statement (.saxZeropageY d) := of_encode _ 0x97#8 [d] rfl rfl
theorem ldyImmediate (d : Byte) : Statement (.ldyImmediate d) := of_encode _ 0xA0#8 [d] rfl rfl
theorem ldaIndirectX (d : Byte) : Statement (.ldaIndirectX d) := of_encode _ 0xA1#8 [d] rfl rfl
theorem ldxImmediate (d : Byte) : Statement (.ldxImmediate d) := of_encode _ 0xA2#8 [d] rfl rfl
theorem laxIndirectX (d : Byte) : Statement (.laxIndirectX d) := of_encode _ 0xA3#8 [d] rfl rfl
theorem ldyZeropage (d : Byte) : Statement (.ldyZeropage d) := of_encode _ 0xA4#8 [d] rfl rfl
theorem ldaZeropage (d : Byte) : Statement (.ldaZeropage d) := of_encode _ 0xA5#8 [d] rfl rfl
theorem ldxZeropage (d : Byte) : Statement (.ldxZeropage d) := of_encode _ 0xA6#8 [d] rfl rfl
theorem laxZeropage (d : Byte) : Statement (.laxZeropage d) := of_encode _ 0xA7#8 [d] rfl rfl
theorem ldaImmediate (d : Byte) : Statement (.ldaImmediate d) := of_encode _ 0xA9#8 [d] rfl rfl
theorem lxaImmediate (d : Byte) : Statement (.lxaImmediate d) := of_encode _ 0xAB#8 [d] rfl rfl
theorem bcs (d : Byte) : Statement (.bcs d) := of_encode _ 0xB0#8 [d] rfl rfl
theorem ldaIndirectY (d : Byte) : Statement (.ldaIndirectY d) := of_encode _ 0xB1#8 [d] rfl rfl
theorem laxIndirectY (d : Byte) : Statement (.laxIndirectY d) := of_encode _ 0xB3#8 [d] rfl rfl
theorem ldyZeropageX (d : Byte) : Statement (.ldyZeropageX d) := of_encode _ 0xB4#8 [d] rfl rfl
theorem ldaZeropageX (d : Byte) : Statement (.ldaZeropageX d) := of_encode _ 0xB5#8 [d] rfl rfl
theorem ldxZeropageY (d : Byte) : Statement (.ldxZeropageY d) := of_encode _ 0xB6#8 [d] rfl rfl
theorem laxZeropageY (d : Byte) : Statement (.laxZeropageY d) := of_encode _ 0xB7#8 [d] rfl rfl
theorem cpyImmediate (d : Byte) : Statement (.cpyImmediate d) := of_encode _ 0xC0#8 [d] rfl rfl
theorem cmpIndirectX (d : Byte) : Statement (.cmpIndirectX d) := of_encode _ 0xC1#8 [d] rfl rfl
theorem nopImmediateC2 (d : Byte) : Statement (.nopImmediateC2 d) := of_encode _ 0xC2#8 [d] rfl rfl
theorem dcpIndirectX (d : Byte) : Statement (.dcpIndirectX d) := of_encode _ 0xC3#8 [d] rfl rfl
theorem cpyZeropage (d : Byte) : Statement (.cpyZeropage d) := of_encode _ 0xC4#8 [d] rfl rfl
theorem cmpZeropage (d : Byte) : Statement (.cmpZeropage d) := of_encode _ 0xC5#8 [d] rfl rfl
theorem decZeropage (d : Byte) : Statement (.decZeropage d) := of_encode _ 0xC6#8 [d] rfl rfl
theorem dcpZeropage (d : Byte) : Statement (.dcpZeropage d) := of_encode _ 0xC7#8 [d] rfl rfl
theorem cmpImmediate (d : Byte) : Statement (.cmpImmediate d) := of_encode _ 0xC9#8 [d] rfl rfl
theorem sbxImmediate (d : Byte) : Statement (.sbxImmediate d) := of_encode _ 0xCB#8 [d] rfl rfl
theorem bne (d : Byte) : Statement (.bne d) := of_encode _ 0xD0#8 [d] rfl rfl
theorem cmpIndirectY (d : Byte) : Statement (.cmpIndirectY d) := of_encode _ 0xD1#8 [d] rfl rfl
theorem dcpIndirectY (d : Byte) : Statement (.dcpIndirectY d) := of_encode _ 0xD3#8 [d] rfl rfl
theorem nopZeropageXD4 (d : Byte) : Statement (.nopZeropageXD4 d) := of_encode _ 0xD4#8 [d] rfl rfl
theorem cmpZeropageX (d : Byte) : Statement (.cmpZeropageX d) := of_encode _ 0xD5#8 [d] rfl rfl
theorem decZeropageX (d : Byte) : Statement (.decZeropageX d) := of_encode _ 0xD6#8 [d] rfl rfl
theorem dcpZeropageX (d : Byte) : Statement (.dcpZeropageX d) := of_encode _ 0xD7#8 [d] rfl rfl
theorem cpxImmediate (d : Byte) : Statement (.cpxImmediate d) := of_encode _ 0xE0#8 [d] rfl rfl
theorem sbcIndirectX (d : Byte) : Statement (.sbcIndirectX d) := of_encode _ 0xE1#8 [d] rfl rfl
theorem nopImmediateE2 (d : Byte) : Statement (.nopImmediateE2 d) := of_encode _ 0xE2#8 [d] rfl rfl
theorem isbIndirectX (d : Byte) : Statement (.isbIndirectX d) := of_encode _ 0xE3#8 [d] rfl rfl
theorem cpxZeropage (d : Byte) : Statement (.cpxZeropage d) := of_encode _ 0xE4#8 [d] rfl rfl
theorem sbcZeropage (d : Byte) : Statement (.sbcZeropage d) := of_encode _ 0xE5#8 [d] rfl rfl
theorem incZeropage (d : Byte) : Statement (.incZeropage d) := of_encode _ 0xE6#8 [d] rfl rfl
theorem isbZeropage (d : Byte) : Statement (.isbZeropage d) := of_encode _ 0xE7#8 [d] rfl rfl
theorem sbcImmediate (d : Byte) : Statement (.sbcImmediate d) := of_encode _ 0xE9#8 [d] rfl rfl
theorem sbcImmediateEB (d : Byte) : Statement (.sbcImmediateEB d) := of_encode _ 0xEB#8 [d] rfl rfl
theorem beq (d : Byte) : Statement (.beq d) := of_encode _ 0xF0#8 [d] rfl rfl
theorem sbcIndirectY (d : Byte) : Statement (.sbcIndirectY d) := of_encode _ 0xF1#8 [d] rfl rfl
theorem isbIndirectY (d : Byte) : Statement (.isbIndirectY d) := of_encode _ 0xF3#8 [d] rfl rfl
theorem nopZeropageXF4 (d : Byte) : Statement (.nopZeropageXF4 d) := of_encode _ 0xF4#8 [d] rfl rfl
theorem sbcZeropageX (d : Byte) : Statement (.sbcZeropageX d) := of_encode _ 0xF5#8 [d] rfl rfl
theorem incZeropageX (d : Byte) : Statement (.incZeropageX d) := of_encode _ 0xF6#8 [d] rfl rfl
theorem isbZeropageX (d : Byte) : Statement (.isbZeropageX d) := of_encode _ 0xF7#8 [d] rfl rfl
theorem nopAbsolute (w : Word) : Statement (.nopAbsolute w) := of_encode _ 0x0C#8 [Machine.lo w, Machine.hi w] rfl rfl
theorem oraAbsolute (w : Word) : Statement (.oraAbsolute w) := of_encode _ 0x0D#8 [Machine.lo w, Machine.hi w] rfl rfl
theorem aslAbsolute (w : Word) : Statement (.aslAbsolute w) := of_encode _ 0x0E#8 [Machine.lo w, Machine.hi w] rfl rfl
theorem sloAbsolute (w : Word) : Statement (.sloAbsolute w) := of_encode _ 0x0F#8 [Machine.lo w, Machine.hi w] rfl rfl
theorem oraAbsoluteY (w : Word) : Statement (.oraAbsoluteY w) := of_encode _ 0x19#8 [Machine.lo w, Machine.hi w] rfl rfl
theorem sloAbsoluteY (w : Word) : Statement (.sloAbsoluteY w) := of_encode _ 0x1B#8 [Machine.lo w, Machine.hi w] rfl rfl
theorem nopAbsoluteX1C (w : Word) : Statement (.nopAbsoluteX1C w) := of_encode _ 0x1C#8 [Machine.lo w, Machine.hi w] rfl rfl
theorem oraAbsoluteX (w : Word) : Statement (.oraAbsoluteX w) := of_encode _ 0x1D#8 [Machine.lo w, Machine.hi w] rfl rfl
theorem aslAbsoluteX (w : Word) : Statement (.aslAbsoluteX w) := of_encode _ 0x1E#8 [Machine.lo w, Machine.hi w] rfl rfl
theorem sloAbsoluteX (w : Word) : Statement (.sloAbsoluteX w) := of_encode _ 0x1F#8 [Machine.lo w, Machine.hi w] rfl rfl
theorem jsr (w : Word) : Statement (.jsr w) := of_encode _ 0x20#8 [Machine.lo w, Machine.hi w] rfl rfl
theorem bitAbsolute (w : Word) : Statement (.bitAbsolute w) := of_encode _ 0x2C#8 [Machine.lo w, Machine.hi w] rfl rfl
theorem andAbsolute (w : Word) : Statement (.andAbsolute w) := of_encode _ 0x2D#8 [Machine.lo w, Machine.hi w] rfl rfl
theorem rolAbsolute (w : Word) : Statement (.rolAbsolute w) := of_encode _ 0x2E#8 [Machine.lo w, Machine.hi w] rfl rfl
theorem rlaAbsolute (w : Word) : Statement (.rlaAbsolute w) := of_encode _ 0x2F#8 [Machine.lo w, Machine.hi w] rfl rfl
theorem andAbsoluteY (w : Word) : Statement (.andAbsoluteY w) := of_encode _ 0x39#8 [Machine.lo w, Machine.hi w] rfl rfl
theorem rlaAbsoluteY (w : Word) : Statement (.rlaAbsoluteY w) := of_encode _ 0x3B#8 [Machine.lo w, Machine.hi w] rfl rfl
theorem nopAbsoluteX3C (w : Word) : Statement (.nopAbsoluteX3C w) := of_encode _ 0x3C#8 [Machine.lo w, Machine.hi w] rfl rfl
theorem andAbsoluteX (w : Word) : Statement (.andAbsoluteX w) := of_encode _ 0x3D#8 [Machine.lo w, Machine.hi w] rfl rfl
theorem rolAbsoluteX (w : Word) : Statement (.rolAbsoluteX w) := of_encode _ 0x3E#8 [Machine.lo w, Machine.hi w] rfl rfl
theorem rlaAbsoluteX (w : Word) : Statement (.rlaAbsoluteX w) := of_encode _ 0x3F#8 [Machine.lo w, Machine.hi w] rfl rfl
theorem jmpAbsolute (w : Word) : Statement (.jmpAbsolute w) := of_encode _ 0x4C#8 [Machine.lo w, Machine.hi w] rfl rfl
theorem eorAbsolute (w : Word) : Statement (.eorAbsolute w) := of_encode _ 0x4D#8 [Machine.lo w, Machine.hi w] rfl rfl
theorem lsrAbsolute (w : Word) : Statement (.lsrAbsolute w) := of_encode _ 0x4E#8 [Machine.lo w, Machine.hi w] rfl rfl
theorem sreAbsolute (w : Word) : Statement (.sreAbsolute w) := of_encode _ 0x4F#8 [Machine.lo w, Machine.hi w] rfl rfl
theorem eorAbsoluteY (w : Word) : Statement (.eorAbsoluteY w) := of_encode _ 0x59#8 [Machine.lo w, Machine.hi w] rfl rfl
theorem sreAbsoluteY (w : Word) : Statement (.sreAbsoluteY w) := of_encode _ 0x5B#8 [Machine.lo w, Machine.hi w] rfl rfl
theorem nopAbsoluteX5C (w : Word) : Statement (.nopAbsoluteX5C w) := of_encode _ 0x5C#8 [Machine.lo w, Machine.hi w] rfl rfl
theorem eorAbsoluteX (w : Word) : Statement (.eorAbsoluteX w) := of_encode _ 0x5D#8 [Machine.lo w, Machine.hi w] rfl rfl
theorem lsrAbsoluteX (w : Word) : Statement (.lsrAbsoluteX w) := of_encode _ 0x5E#8 [Machine.lo w, Machine.hi w] rfl rfl
theorem sreAbsoluteX (w : Word) : Statement (.sreAbsoluteX w) := of_encode _ 0x5F#8 [Machine.lo w, Machine.hi w] rfl rfl
theorem jmpIndirect (w : Word) : Statement (.jmpIndirect w) := of_encode _ 0x6C#8 [Machine.lo w, Machine.hi w] rfl rfl
theorem adcAbsolute (w : Word) : Statement (.adcAbsolute w) := of_encode _ 0x6D#8 [Machine.lo w, Machine.hi w] rfl rfl
theorem rorAbsolute (w : Word) : Statement (.rorAbsolute w) := of_encode _ 0x6E#8 [Machine.lo w, Machine.hi w] rfl rfl
theorem rraAbsolute (w : Word) : Statement (.rraAbsolute w) := of_encode _ 0x6F#8 [Machine.lo w, Machine.hi w] rfl rfl
theorem adcAbsoluteY (w : Word) : Statement (.adcAbsoluteY w) := of_encode _ 0x79#8 [Machine.lo w, Machine.hi w] rfl rfl
theorem rraAbsoluteY (w : Word) : Statement (.rraAbsoluteY w) := of_encode _ 0x7B#8 [Machine.lo w, Machine.hi w] rfl rfl
theorem nopAbsoluteX7C (w : Word) : Statement (.nopAbsoluteX7C w) := of_encode _ 0x7C#8 [Machine.lo w, Machine.hi w] rfl rfl
theorem adcAbsoluteX (w : Word) : Statement (.adcAbsoluteX w) := of_encode _ 0x7D#8 [Machine.lo w, Machine.hi w] rfl rfl
theorem rorAbsoluteX (w : Word) : Statement (.rorAbsoluteX w) := of_encode _ 0x7E#8 [Machine.lo w, Machine.hi w] rfl rfl
theorem rraAbsoluteX (w : Word) : Statement (.rraAbsoluteX w) := of_encode _ 0x7F#8 [Machine.lo w, Machine.hi w] rfl rfl
theorem styAbsolute (w : Word) : Statement (.styAbsolute w) := of_encode _ 0x8C#8 [Machine.lo w, Machine.hi w] rfl rfl
theorem staAbsolute (w : Word) : Statement (.staAbsolute w) := of_encode _ 0x8D#8 [Machine.lo w, Machine.hi w] rfl rfl
theorem stxAbsolute (w : Word) : Statement (.stxAbsolute w) := of_encode _ 0x8E#8 [Machine.lo w, Machine.hi w] rfl rfl
theorem saxAbsolute (w : Word) : Statement (.saxAbsolute w) := of_encode _ 0x8F#8 [Machine.lo w, Machine.hi w] rfl rfl
theorem staAbsoluteY (w : Word) : Statement (.staAbsoluteY w) := of_encode _ 0x99#8 [Machine.lo w, Machine.hi w] rfl rfl
theorem tasAbsoluteY (w : Word) : Statement (.tasAbsoluteY w) := of_encode _ 0x9B#8 [Machine.lo w, Machine.hi w] rfl rfl
theorem shyAbsoluteX (w : Word) : Statement (.shyAbsoluteX w) := of_encode _ 0x9C#8 [Machine.lo w, Machine.hi w] rfl rfl
theorem staAbsoluteX (w : Word) : Statement (.staAbsoluteX w) := of_encode _ 0x9D#8 [Machine.lo w, Machine.hi w] rfl rfl
theorem shxAbsoluteY (w : Word) : Statement (.shxAbsoluteY w) := of_encode _ 0x9E#8 [Machine.lo w, Machine.hi w] rfl rfl
theorem shaAbsoluteY (w : Word) : Statement (.shaAbsoluteY w) := of_encode _ 0x9F#8 [Machine.lo w, Machine.hi w] rfl rfl
theorem ldyAbsolute (w : Word) : Statement (.ldyAbsolute w) := of_encode _ 0xAC#8 [Machine.lo w, Machine.hi w] rfl rfl
theorem ldaAbsolute (w : Word) : Statement (.ldaAbsolute w) := of_encode _ 0xAD#8 [Machine.lo w, Machine.hi w] rfl rfl
theorem ldxAbsolute (w : Word) : Statement (.ldxAbsolute w) := of_encode _ 0xAE#8 [Machine.lo w, Machine.hi w] rfl rfl
theorem laxAbsolute (w : Word) : Statement (.laxAbsolute w) := of_encode _ 0xAF#8 [Machine.lo w, Machine.hi w] rfl rfl
theorem ldaAbsoluteY (w : Word) : Statement (.ldaAbsoluteY w) := of_encode _ 0xB9#8 [Machine.lo w, Machine.hi w] rfl rfl
theorem lasAbsoluteY (w : Word) : Statement (.lasAbsoluteY w) := of_encode _ 0xBB#8 [Machine.lo w, Machine.hi w] rfl rfl
theorem ldyAbsoluteX (w : Word) : Statement (.ldyAbsoluteX w) := of_encode _ 0xBC#8 [Machine.lo w, Machine.hi w] rfl rfl
theorem ldaAbsoluteX (w : Word) : Statement (.ldaAbsoluteX w) := of_encode _ 0xBD#8 [Machine.lo w, Machine.hi w] rfl rfl
theorem ldxAbsoluteY (w : Word) : Statement (.ldxAbsoluteY w) := of_encode _ 0xBE#8 [Machine.lo w, Machine.hi w] rfl rfl
theorem laxAbsoluteY (w : Word) : Statement (.laxAbsoluteY w) := of_encode _ 0xBF#8 [Machine.lo w, Machine.hi w] rfl rfl
theorem cpyAbsolute (w : Word) : Statement (.cpyAbsolute w) := of_encode _ 0xCC#8 [Machine.lo w, Machine.hi w] rfl rfl
theorem cmpAbsolute (w : Word) : Statement (.cmpAbsolute w) := of_encode _ 0xCD#8 [Machine.lo w, Machine.hi w] rfl rfl
theorem decAbsolute (w : Word) : Statement (.decAbsolute w) := of_encode _ 0xCE#8 [Machine.lo w, Machine.hi w] rfl rfl
theorem dcpAbsolute (w : Word) : Statement (.dcpAbsolute w) := of_encode _ 0xCF#8 [Machine.lo w, Machine.hi w] rfl rfl
theorem cmpAbsoluteY (w : Word) : Statement (.cmpAbsoluteY w) := of_encode _ 0xD9#8 [Machine.lo w, Machine.hi w] rfl rfl
theorem dcpAbsoluteY (w : Word) : Statement (.dcpAbsoluteY w) := of_encode _ 0xDB#8 [Machine.lo w, Machine.hi w] rfl rfl
theorem nopAbsoluteXDC (w : Word) : Statement (.nopAbsoluteXDC w) := of_encode _ 0xDC#8 [Machine.lo w, Machine.hi w] rfl rfl
theorem cmpAbsoluteX (w : Word) : Statement (.cmpAbsoluteX w) := of_encode _ 0xDD#8 [Machine.lo w, Machine.hi w] rfl rfl
theorem decAbsoluteX (w : Word) : Statement (.decAbsoluteX w) := of_encode _ 0xDE#8 [Machine.lo w, Machine.hi w] rfl rfl
theorem dcpAbsoluteX (w : Word) : Statement (.dcpAbsoluteX w) := of_encode _ 0xDF#8 [Machine.lo w, Machine.hi w] rfl rfl
theorem cpxAbsolute (w : Word) : Statement (.cpxAbsolute w) := of_encode _ 0xEC#8 [Machine.lo w, Machine.hi w] rfl rfl
theorem sbcAbsolute (w : Word) : Statement (.sbcAbsolute w) := of_encode _ 0xED#8 [Machine.lo w, Machine.hi w] rfl rfl
theorem incAbsolute (w : Word) : Statement (.incAbsolute w) := of_encode _ 0xEE#8 [Machine.lo w, Machine.hi w] rfl rfl
theorem isbAbsolute (w : Word) : Statement (.isbAbsolute w) := of_encode _ 0xEF#8 [Machine.lo w, Machine.hi w] rfl rfl
theorem sbcAbsoluteY (w : Word) : Statement (.sbcAbsoluteY w) := of_encode _ 0xF9#8 [Machine.lo w, Machine.hi w] rfl rfl
theorem isbAbsoluteY (w : Word) : Statement (.isbAbsoluteY w) := of_encode _ 0xFB#8 [Machine.lo w, Machine.hi w] rfl rfl
theorem nopAbsoluteXFC (w : Word) : Statement (.nopAbsoluteXFC w) := of_encode _ 0xFC#8 [Machine.lo w, Machine.hi w] rfl rfl
theorem sbcAbsoluteX (w : Word) : Statement (.sbcAbsoluteX w) := of_encode _ 0xFD#8 [Machine.lo w, Machine.hi w] rfl rfl
theorem incAbsoluteX (w : Word) : Statement (.incAbsoluteX w) := of_encode _ 0xFE#8 [Machine.lo w, Machine.hi w] rfl rfl
theorem isbAbsoluteX (w : Word) : Statement (.isbAbsoluteX w) := of_encode _ 0xFF#8 [Machine.lo w, Machine.hi w] rfl rfl
theorem brk : Statement .brk := of_encode _ 0x00#8 [] rfl rfl
theorem jam02 : Statement .jam02 := of_encode _ 0x02#8 [] rfl rfl
theorem php : Statement .php := of_encode _ 0x08#8 [] rfl rfl
theorem aslAccumulator : Statement .aslAccumulator := of_encode _ 0x0A#8 [] rfl rfl
theorem jam12 : Statement .jam12 := of_encode _ 0x12#8 [] rfl rfl
theorem clc : Statement .clc := of_encode _ 0x18#8 [] rfl rfl
theorem nop1A : Statement .nop1A := of_encode _ 0x1A#8 [] rfl rfl
theorem jam22 : Statement .jam22 := of_encode _ 0x22#8 [] rfl rfl
theorem plp : Statement .plp := of_encode _ 0x28#8 [] rfl rfl
theorem rolAccumulator : Statement .rolAccumulator := of_encode _ 0x2A#8 [] rfl rfl
theorem jam32 : Statement .jam32 := of_encode _ 0x32#8 [] rfl rfl
theorem sec : Statement .sec := of_encode _ 0x38#8 [] rfl rfl
theorem nop3A : Statement .nop3A := of_encode _ 0x3A#8 [] rfl rfl
theorem rti : Statement .rti := of_encode _ 0x40#8 [] rfl rfl
theorem jam42 : Statement .jam42 := of_encode _ 0x42#8 [] rfl rfl
theorem pha : Statement .pha := of_encode _ 0x48#8 [] rfl rfl
theorem lsrAccumulator : Statement .lsrAccumulator := of_encode _ 0x4A#8 [] rfl rfl
theorem jam52 : Statement .jam52 := of_encode _ 0x52#8 [] rfl rfl
theorem cli : Statement .cli := of_encode _ 0x58#8 [] rfl rfl
theorem nop5A : Statement .nop5A := of_encode _ 0x5A#8 [] rfl rfl
theorem rts : Statement .rts := of_encode _ 0x60#8 [] rfl rfl
theorem jam62 : Statement .jam62 := of_encode _ 0x62#8 [] rfl rfl
theorem pla : Statement .pla := of_encode _ 0x68#8 [] rfl rfl
theorem rorAccumulator : Statement .rorAccumulator := of_encode _ 0x6A#8 [] rfl rfl
theorem jam72 : Statement .jam72 := of_encode _ 0x72#8 [] rfl rfl
theorem sei : Statement .sei := of_encode _ 0x78#8 [] rfl rfl
theorem nop7A : Statement .nop7A := of_encode _ 0x7A#8 [] rfl rfl
theorem dey : Statement .dey := of_encode _ 0x88#8 [] rfl rfl
theorem txa : Statement .txa := of_encode _ 0x8A#8 [] rfl rfl
theorem jam92 : Statement .jam92 := of_encode _ 0x92#8 [] rfl rfl
theorem tya : Statement .tya := of_encode _ 0x98#8 [] rfl rfl
theorem txs : Statement .txs := of_encode _ 0x9A#8 [] rfl rfl
theorem tay : Statement .tay := of_encode _ 0xA8#8 [] rfl rfl
theorem tax : Statement .tax := of_encode _ 0xAA#8 [] rfl rfl
theorem jamB2 : Statement .jamB2 := of_encode _ 0xB2#8 [] rfl rfl
theorem clv : Statement .clv := of_encode _ 0xB8#8 [] rfl rfl
theorem tsx : Statement .tsx := of_encode _ 0xBA#8 [] rfl rfl
theorem iny : Statement .iny := of_encode _ 0xC8#8 [] rfl rfl
theorem dex : Statement .dex := of_encode _ 0xCA#8 [] rfl rfl
theorem jamD2 : Statement .jamD2 := of_encode _ 0xD2#8 [] rfl rfl
theorem cld : Statement .cld := of_encode _ 0xD8#8 [] rfl rfl
theorem nopDA : Statement .nopDA := of_encode _ 0xDA#8 [] rfl rfl
theorem inx : Statement .inx := of_encode _ 0xE8#8 [] rfl rfl
theorem nop : Statement .nop := of_encode _ 0xEA#8 [] rfl rfl
theorem jamF2 : Statement .jamF2 := of_encode _ 0xF2#8 [] rfl rfl
theorem sed : Statement .sed := of_encode _ 0xF8#8 [] rfl rfl
theorem nopFA : Statement .nopFA := of_encode _ 0xFA#8 [] rfl rfl

end Sys2Proof.Laws.Coded
end

