-- ==== Sys2Proof/Laws/Encoding.lean ====
section
/-! SUPPORT. The laws of the encoding: the two bytes of a word, and that every instruction is well formed. -/

namespace Sys2Proof

open Sys2Proof.Machine (hi lo word)

/-- The two bytes of a word give it back (R101). -/
@[simp] theorem word_hi_lo (w : Word) : word (hi w) (lo w) = w := by
  apply BitVec.eq_of_getLsbD_eq
  intro i hi'
  simp only [word, hi, lo, BitVec.getLsbD_or, BitVec.getLsbD_shiftLeft, BitVec.getLsbD_setWidth, BitVec.getLsbD_ushiftRight]
  by_cases h : i < 8
  · have h16 : i < 16 := by omega
    simp only [h, h16, decide_true, Bool.true_and, Bool.not_true, Bool.false_and, Bool.and_false, Bool.false_or]
  · have h1 : i - 8 < 8 := by omega
    have h2 : i - 8 < 16 := by omega
    have h3 : 8 + (i - 8) = i := by omega
    simp only [h, h1, h2, h3, hi', decide_true, decide_false, Bool.true_and, Bool.not_false, Bool.and_true, Bool.false_and,
      Bool.and_false, Bool.or_false]

/-- The high byte of `{h, l}` (R11). -/
@[simp] theorem hi_word (h l : Byte) : hi (word h l) = h := by
  apply BitVec.eq_of_getLsbD_eq
  intro i hi'
  have h1 : 8 + i < 16 := by omega
  have h2 : ¬ 8 + i < 8 := by omega
  have h3 : 8 + i - 8 = i := by omega
  have h4 : i < 16 := by omega
  simp only [word, hi, BitVec.getLsbD_or, BitVec.getLsbD_shiftLeft, BitVec.getLsbD_setWidth, BitVec.getLsbD_ushiftRight,
    hi', h1, h2, h3, h4, decide_true, decide_false, Bool.true_and, Bool.not_false, BitVec.getLsbD_of_ge l (8 + i) (by omega),
    Bool.and_false, Bool.or_false]

/-- The low byte of `{h, l}` (R11). -/
@[simp] theorem lo_word (h l : Byte) : lo (word h l) = l := by
  apply BitVec.eq_of_getLsbD_eq
  intro i hi'
  have h4 : i < 16 := by omega
  simp only [word, lo, BitVec.getLsbD_or, BitVec.getLsbD_shiftLeft, BitVec.getLsbD_setWidth, hi', h4, decide_true,
    Bool.not_true, Bool.true_and, Bool.false_and, Bool.and_false, Bool.false_or]

/-- The facts of the family `Coded` hold of every instruction. -/
theorem Instr.coded (i : Instr) : Laws.Coded.Statement i := by
  cases i with
  | oraIndirectX d => exact Laws.Coded.oraIndirectX d
  | sloIndirectX d => exact Laws.Coded.sloIndirectX d
  | nopZeropage04 d => exact Laws.Coded.nopZeropage04 d
  | oraZeropage d => exact Laws.Coded.oraZeropage d
  | aslZeropage d => exact Laws.Coded.aslZeropage d
  | sloZeropage d => exact Laws.Coded.sloZeropage d
  | oraImmediate d => exact Laws.Coded.oraImmediate d
  | ancImmediate0B d => exact Laws.Coded.ancImmediate0B d
  | bpl d => exact Laws.Coded.bpl d
  | oraIndirectY d => exact Laws.Coded.oraIndirectY d
  | sloIndirectY d => exact Laws.Coded.sloIndirectY d
  | nopZeropageX14 d => exact Laws.Coded.nopZeropageX14 d
  | oraZeropageX d => exact Laws.Coded.oraZeropageX d
  | aslZeropageX d => exact Laws.Coded.aslZeropageX d
  | sloZeropageX d => exact Laws.Coded.sloZeropageX d
  | andIndirectX d => exact Laws.Coded.andIndirectX d
  | rlaIndirectX d => exact Laws.Coded.rlaIndirectX d
  | bitZeropage d => exact Laws.Coded.bitZeropage d
  | andZeropage d => exact Laws.Coded.andZeropage d
  | rolZeropage d => exact Laws.Coded.rolZeropage d
  | rlaZeropage d => exact Laws.Coded.rlaZeropage d
  | andImmediate d => exact Laws.Coded.andImmediate d
  | ancImmediate2B d => exact Laws.Coded.ancImmediate2B d
  | bmi d => exact Laws.Coded.bmi d
  | andIndirectY d => exact Laws.Coded.andIndirectY d
  | rlaIndirectY d => exact Laws.Coded.rlaIndirectY d
  | nopZeropageX34 d => exact Laws.Coded.nopZeropageX34 d
  | andZeropageX d => exact Laws.Coded.andZeropageX d
  | rolZeropageX d => exact Laws.Coded.rolZeropageX d
  | rlaZeropageX d => exact Laws.Coded.rlaZeropageX d
  | eorIndirectX d => exact Laws.Coded.eorIndirectX d
  | sreIndirectX d => exact Laws.Coded.sreIndirectX d
  | nopZeropage44 d => exact Laws.Coded.nopZeropage44 d
  | eorZeropage d => exact Laws.Coded.eorZeropage d
  | lsrZeropage d => exact Laws.Coded.lsrZeropage d
  | sreZeropage d => exact Laws.Coded.sreZeropage d
  | eorImmediate d => exact Laws.Coded.eorImmediate d
  | alrImmediate d => exact Laws.Coded.alrImmediate d
  | bvc d => exact Laws.Coded.bvc d
  | eorIndirectY d => exact Laws.Coded.eorIndirectY d
  | sreIndirectY d => exact Laws.Coded.sreIndirectY d
  | nopZeropageX54 d => exact Laws.Coded.nopZeropageX54 d
  | eorZeropageX d => exact Laws.Coded.eorZeropageX d
  | lsrZeropageX d => exact Laws.Coded.lsrZeropageX d
  | sreZeropageX d => exact Laws.Coded.sreZeropageX d
  | adcIndirectX d => exact Laws.Coded.adcIndirectX d
  | rraIndirectX d => exact Laws.Coded.rraIndirectX d
  | nopZeropage64 d => exact Laws.Coded.nopZeropage64 d
  | adcZeropage d => exact Laws.Coded.adcZeropage d
  | rorZeropage d => exact Laws.Coded.rorZeropage d
  | rraZeropage d => exact Laws.Coded.rraZeropage d
  | adcImmediate d => exact Laws.Coded.adcImmediate d
  | arrImmediate d => exact Laws.Coded.arrImmediate d
  | bvs d => exact Laws.Coded.bvs d
  | adcIndirectY d => exact Laws.Coded.adcIndirectY d
  | rraIndirectY d => exact Laws.Coded.rraIndirectY d
  | nopZeropageX74 d => exact Laws.Coded.nopZeropageX74 d
  | adcZeropageX d => exact Laws.Coded.adcZeropageX d
  | rorZeropageX d => exact Laws.Coded.rorZeropageX d
  | rraZeropageX d => exact Laws.Coded.rraZeropageX d
  | nopImmediate80 d => exact Laws.Coded.nopImmediate80 d
  | staIndirectX d => exact Laws.Coded.staIndirectX d
  | nopImmediate82 d => exact Laws.Coded.nopImmediate82 d
  | saxIndirectX d => exact Laws.Coded.saxIndirectX d
  | styZeropage d => exact Laws.Coded.styZeropage d
  | staZeropage d => exact Laws.Coded.staZeropage d
  | stxZeropage d => exact Laws.Coded.stxZeropage d
  | saxZeropage d => exact Laws.Coded.saxZeropage d
  | nopImmediate89 d => exact Laws.Coded.nopImmediate89 d
  | aneImmediate d => exact Laws.Coded.aneImmediate d
  | bcc d => exact Laws.Coded.bcc d
  | staIndirectY d => exact Laws.Coded.staIndirectY d
  | shaIndirectY d => exact Laws.Coded.shaIndirectY d
  | styZeropageX d => exact Laws.Coded.styZeropageX d
  | staZeropageX d => exact Laws.Coded.staZeropageX d
  | stxZeropageY d => exact Laws.Coded.stxZeropageY d
  | saxZeropageY d => exact Laws.Coded.saxZeropageY d
  | ldyImmediate d => exact Laws.Coded.ldyImmediate d
  | ldaIndirectX d => exact Laws.Coded.ldaIndirectX d
  | ldxImmediate d => exact Laws.Coded.ldxImmediate d
  | laxIndirectX d => exact Laws.Coded.laxIndirectX d
  | ldyZeropage d => exact Laws.Coded.ldyZeropage d
  | ldaZeropage d => exact Laws.Coded.ldaZeropage d
  | ldxZeropage d => exact Laws.Coded.ldxZeropage d
  | laxZeropage d => exact Laws.Coded.laxZeropage d
  | ldaImmediate d => exact Laws.Coded.ldaImmediate d
  | lxaImmediate d => exact Laws.Coded.lxaImmediate d
  | bcs d => exact Laws.Coded.bcs d
  | ldaIndirectY d => exact Laws.Coded.ldaIndirectY d
  | laxIndirectY d => exact Laws.Coded.laxIndirectY d
  | ldyZeropageX d => exact Laws.Coded.ldyZeropageX d
  | ldaZeropageX d => exact Laws.Coded.ldaZeropageX d
  | ldxZeropageY d => exact Laws.Coded.ldxZeropageY d
  | laxZeropageY d => exact Laws.Coded.laxZeropageY d
  | cpyImmediate d => exact Laws.Coded.cpyImmediate d
  | cmpIndirectX d => exact Laws.Coded.cmpIndirectX d
  | nopImmediateC2 d => exact Laws.Coded.nopImmediateC2 d
  | dcpIndirectX d => exact Laws.Coded.dcpIndirectX d
  | cpyZeropage d => exact Laws.Coded.cpyZeropage d
  | cmpZeropage d => exact Laws.Coded.cmpZeropage d
  | decZeropage d => exact Laws.Coded.decZeropage d
  | dcpZeropage d => exact Laws.Coded.dcpZeropage d
  | cmpImmediate d => exact Laws.Coded.cmpImmediate d
  | sbxImmediate d => exact Laws.Coded.sbxImmediate d
  | bne d => exact Laws.Coded.bne d
  | cmpIndirectY d => exact Laws.Coded.cmpIndirectY d
  | dcpIndirectY d => exact Laws.Coded.dcpIndirectY d
  | nopZeropageXD4 d => exact Laws.Coded.nopZeropageXD4 d
  | cmpZeropageX d => exact Laws.Coded.cmpZeropageX d
  | decZeropageX d => exact Laws.Coded.decZeropageX d
  | dcpZeropageX d => exact Laws.Coded.dcpZeropageX d
  | cpxImmediate d => exact Laws.Coded.cpxImmediate d
  | sbcIndirectX d => exact Laws.Coded.sbcIndirectX d
  | nopImmediateE2 d => exact Laws.Coded.nopImmediateE2 d
  | isbIndirectX d => exact Laws.Coded.isbIndirectX d
  | cpxZeropage d => exact Laws.Coded.cpxZeropage d
  | sbcZeropage d => exact Laws.Coded.sbcZeropage d
  | incZeropage d => exact Laws.Coded.incZeropage d
  | isbZeropage d => exact Laws.Coded.isbZeropage d
  | sbcImmediate d => exact Laws.Coded.sbcImmediate d
  | sbcImmediateEB d => exact Laws.Coded.sbcImmediateEB d
  | beq d => exact Laws.Coded.beq d
  | sbcIndirectY d => exact Laws.Coded.sbcIndirectY d
  | isbIndirectY d => exact Laws.Coded.isbIndirectY d
  | nopZeropageXF4 d => exact Laws.Coded.nopZeropageXF4 d
  | sbcZeropageX d => exact Laws.Coded.sbcZeropageX d
  | incZeropageX d => exact Laws.Coded.incZeropageX d
  | isbZeropageX d => exact Laws.Coded.isbZeropageX d
  | nopAbsolute w => exact Laws.Coded.nopAbsolute w
  | oraAbsolute w => exact Laws.Coded.oraAbsolute w
  | aslAbsolute w => exact Laws.Coded.aslAbsolute w
  | sloAbsolute w => exact Laws.Coded.sloAbsolute w
  | oraAbsoluteY w => exact Laws.Coded.oraAbsoluteY w
  | sloAbsoluteY w => exact Laws.Coded.sloAbsoluteY w
  | nopAbsoluteX1C w => exact Laws.Coded.nopAbsoluteX1C w
  | oraAbsoluteX w => exact Laws.Coded.oraAbsoluteX w
  | aslAbsoluteX w => exact Laws.Coded.aslAbsoluteX w
  | sloAbsoluteX w => exact Laws.Coded.sloAbsoluteX w
  | jsr w => exact Laws.Coded.jsr w
  | bitAbsolute w => exact Laws.Coded.bitAbsolute w
  | andAbsolute w => exact Laws.Coded.andAbsolute w
  | rolAbsolute w => exact Laws.Coded.rolAbsolute w
  | rlaAbsolute w => exact Laws.Coded.rlaAbsolute w
  | andAbsoluteY w => exact Laws.Coded.andAbsoluteY w
  | rlaAbsoluteY w => exact Laws.Coded.rlaAbsoluteY w
  | nopAbsoluteX3C w => exact Laws.Coded.nopAbsoluteX3C w
  | andAbsoluteX w => exact Laws.Coded.andAbsoluteX w
  | rolAbsoluteX w => exact Laws.Coded.rolAbsoluteX w
  | rlaAbsoluteX w => exact Laws.Coded.rlaAbsoluteX w
  | jmpAbsolute w => exact Laws.Coded.jmpAbsolute w
  | eorAbsolute w => exact Laws.Coded.eorAbsolute w
  | lsrAbsolute w => exact Laws.Coded.lsrAbsolute w
  | sreAbsolute w => exact Laws.Coded.sreAbsolute w
  | eorAbsoluteY w => exact Laws.Coded.eorAbsoluteY w
  | sreAbsoluteY w => exact Laws.Coded.sreAbsoluteY w
  | nopAbsoluteX5C w => exact Laws.Coded.nopAbsoluteX5C w
  | eorAbsoluteX w => exact Laws.Coded.eorAbsoluteX w
  | lsrAbsoluteX w => exact Laws.Coded.lsrAbsoluteX w
  | sreAbsoluteX w => exact Laws.Coded.sreAbsoluteX w
  | jmpIndirect w => exact Laws.Coded.jmpIndirect w
  | adcAbsolute w => exact Laws.Coded.adcAbsolute w
  | rorAbsolute w => exact Laws.Coded.rorAbsolute w
  | rraAbsolute w => exact Laws.Coded.rraAbsolute w
  | adcAbsoluteY w => exact Laws.Coded.adcAbsoluteY w
  | rraAbsoluteY w => exact Laws.Coded.rraAbsoluteY w
  | nopAbsoluteX7C w => exact Laws.Coded.nopAbsoluteX7C w
  | adcAbsoluteX w => exact Laws.Coded.adcAbsoluteX w
  | rorAbsoluteX w => exact Laws.Coded.rorAbsoluteX w
  | rraAbsoluteX w => exact Laws.Coded.rraAbsoluteX w
  | styAbsolute w => exact Laws.Coded.styAbsolute w
  | staAbsolute w => exact Laws.Coded.staAbsolute w
  | stxAbsolute w => exact Laws.Coded.stxAbsolute w
  | saxAbsolute w => exact Laws.Coded.saxAbsolute w
  | staAbsoluteY w => exact Laws.Coded.staAbsoluteY w
  | tasAbsoluteY w => exact Laws.Coded.tasAbsoluteY w
  | shyAbsoluteX w => exact Laws.Coded.shyAbsoluteX w
  | staAbsoluteX w => exact Laws.Coded.staAbsoluteX w
  | shxAbsoluteY w => exact Laws.Coded.shxAbsoluteY w
  | shaAbsoluteY w => exact Laws.Coded.shaAbsoluteY w
  | ldyAbsolute w => exact Laws.Coded.ldyAbsolute w
  | ldaAbsolute w => exact Laws.Coded.ldaAbsolute w
  | ldxAbsolute w => exact Laws.Coded.ldxAbsolute w
  | laxAbsolute w => exact Laws.Coded.laxAbsolute w
  | ldaAbsoluteY w => exact Laws.Coded.ldaAbsoluteY w
  | lasAbsoluteY w => exact Laws.Coded.lasAbsoluteY w
  | ldyAbsoluteX w => exact Laws.Coded.ldyAbsoluteX w
  | ldaAbsoluteX w => exact Laws.Coded.ldaAbsoluteX w
  | ldxAbsoluteY w => exact Laws.Coded.ldxAbsoluteY w
  | laxAbsoluteY w => exact Laws.Coded.laxAbsoluteY w
  | cpyAbsolute w => exact Laws.Coded.cpyAbsolute w
  | cmpAbsolute w => exact Laws.Coded.cmpAbsolute w
  | decAbsolute w => exact Laws.Coded.decAbsolute w
  | dcpAbsolute w => exact Laws.Coded.dcpAbsolute w
  | cmpAbsoluteY w => exact Laws.Coded.cmpAbsoluteY w
  | dcpAbsoluteY w => exact Laws.Coded.dcpAbsoluteY w
  | nopAbsoluteXDC w => exact Laws.Coded.nopAbsoluteXDC w
  | cmpAbsoluteX w => exact Laws.Coded.cmpAbsoluteX w
  | decAbsoluteX w => exact Laws.Coded.decAbsoluteX w
  | dcpAbsoluteX w => exact Laws.Coded.dcpAbsoluteX w
  | cpxAbsolute w => exact Laws.Coded.cpxAbsolute w
  | sbcAbsolute w => exact Laws.Coded.sbcAbsolute w
  | incAbsolute w => exact Laws.Coded.incAbsolute w
  | isbAbsolute w => exact Laws.Coded.isbAbsolute w
  | sbcAbsoluteY w => exact Laws.Coded.sbcAbsoluteY w
  | isbAbsoluteY w => exact Laws.Coded.isbAbsoluteY w
  | nopAbsoluteXFC w => exact Laws.Coded.nopAbsoluteXFC w
  | sbcAbsoluteX w => exact Laws.Coded.sbcAbsoluteX w
  | incAbsoluteX w => exact Laws.Coded.incAbsoluteX w
  | isbAbsoluteX w => exact Laws.Coded.isbAbsoluteX w
  | brk => exact Laws.Coded.brk
  | jam02 => exact Laws.Coded.jam02
  | php => exact Laws.Coded.php
  | aslAccumulator => exact Laws.Coded.aslAccumulator
  | jam12 => exact Laws.Coded.jam12
  | clc => exact Laws.Coded.clc
  | nop1A => exact Laws.Coded.nop1A
  | jam22 => exact Laws.Coded.jam22
  | plp => exact Laws.Coded.plp
  | rolAccumulator => exact Laws.Coded.rolAccumulator
  | jam32 => exact Laws.Coded.jam32
  | sec => exact Laws.Coded.sec
  | nop3A => exact Laws.Coded.nop3A
  | rti => exact Laws.Coded.rti
  | jam42 => exact Laws.Coded.jam42
  | pha => exact Laws.Coded.pha
  | lsrAccumulator => exact Laws.Coded.lsrAccumulator
  | jam52 => exact Laws.Coded.jam52
  | cli => exact Laws.Coded.cli
  | nop5A => exact Laws.Coded.nop5A
  | rts => exact Laws.Coded.rts
  | jam62 => exact Laws.Coded.jam62
  | pla => exact Laws.Coded.pla
  | rorAccumulator => exact Laws.Coded.rorAccumulator
  | jam72 => exact Laws.Coded.jam72
  | sei => exact Laws.Coded.sei
  | nop7A => exact Laws.Coded.nop7A
  | dey => exact Laws.Coded.dey
  | txa => exact Laws.Coded.txa
  | jam92 => exact Laws.Coded.jam92
  | tya => exact Laws.Coded.tya
  | txs => exact Laws.Coded.txs
  | tay => exact Laws.Coded.tay
  | tax => exact Laws.Coded.tax
  | jamB2 => exact Laws.Coded.jamB2
  | clv => exact Laws.Coded.clv
  | tsx => exact Laws.Coded.tsx
  | iny => exact Laws.Coded.iny
  | dex => exact Laws.Coded.dex
  | jamD2 => exact Laws.Coded.jamD2
  | cld => exact Laws.Coded.cld
  | nopDA => exact Laws.Coded.nopDA
  | inx => exact Laws.Coded.inx
  | nop => exact Laws.Coded.nop
  | jamF2 => exact Laws.Coded.jamF2
  | sed => exact Laws.Coded.sed
  | nopFA => exact Laws.Coded.nopFA

/-- Every term of `Instr` is well formed (R140, R143, R147). -/
theorem Instr.wellFormed_all (i : Instr) : i.WellFormed = true := i.coded.1

end Sys2Proof
end

