-- ==== Sys2Proof/Laws/Memory.lean ====
section
/-! SUPPORT. The laws of one storage array: a read after a write, and the canonical form. -/

namespace Sys2Proof.Machine

/-! ### Reads of a written array -/

/-- A cell put in front of an array is read at its own address. -/
theorem Memory.read_cell (a : Nat) (b : Byte) (m : Memory) (x : Nat) (h : m.read a = Memory.unlisted) :
    (Memory.cell a b m).read x = if x = a then b else m.read x := by
  unfold Memory.cell
  split
  · split
    · simp_all
    · rfl
  · rfl

/-- Below the first listed address everything reads as unlisted. -/
theorem Memory.read_of_lt (m : Memory) : ∀ lo a, Memory.wfFrom lo m = true → a < lo → m.read a = Memory.unlisted := by
  induction m with
  | nil => intros; rfl
  | cons c m ih =>
    obtain ⟨k, b⟩ := c
    intro lo a h ha
    simp only [Memory.wfFrom, Bool.and_eq_true, decide_eq_true_eq] at h
    have hk : ¬ a = k := by omega
    simp only [Memory.read, hk, if_false]
    exact ih (k + 1) a h.2 (by omega)

/-- Every address of a written array: the new byte at the written address, the old byte elsewhere. -/
theorem Memory.read_write_from (m : Memory) : ∀ lo a b x, Memory.wfFrom lo m = true →
    (m.write a b).read x = if x = a then b else m.read x := by
  induction m with
  | nil => intro lo a b x _; exact Memory.read_cell a b [] x rfl
  | cons c m ih =>
    obtain ⟨k, d⟩ := c
    intro lo a b x h
    have hw := h
    simp only [Memory.wfFrom, Bool.and_eq_true, decide_eq_true_eq] at h
    unfold Memory.write
    split
    · rename_i hlt
      refine Memory.read_cell a b _ x ?_
      have hk : ¬ a = k := by omega
      simp only [Memory.read, hk, if_false]
      exact Memory.read_of_lt m (k + 1) a h.2 (by omega)
    · split
      · rename_i _ heq
        subst heq
        rw [Memory.read_cell a b m x (Memory.read_of_lt m (a + 1) a h.2 (by omega))]
        simp only [Memory.read]
        split <;> rfl
      · rename_i hlt hne
        simp only [Memory.read]
        split
        · rename_i hxk
          have : ¬ x = a := by omega
          simp only [this, if_false]
        · exact ih (k + 1) a b x h.2

/-- Every address of a written array in canonical form. -/
theorem Memory.read_write (m : Memory) (a : Nat) (b : Byte) (x : Nat) (h : m.wf = true) :
    (m.write a b).read x = if x = a then b else m.read x := Memory.read_write_from m 0 a b x h

/-- A write leaves every other address alone, whatever the form of the array. -/
theorem Memory.read_write_other (m : Memory) (a : Nat) (b : Byte) (x : Nat) (h : x ≠ a) : (m.write a b).read x = m.read x := by
  induction m with
  | nil =>
    unfold Memory.write Memory.cell
    split
    · rfl
    · simp only [Memory.read, h, if_false]
  | cons c m ih =>
    obtain ⟨k, d⟩ := c
    unfold Memory.write Memory.cell
    split
    · split
      · rfl
      · simp only [Memory.read, h, if_false]
    · split
      · rename_i _ heq
        subst heq
        split
        · simp only [Memory.read, h, if_false]
        · simp only [Memory.read, h, if_false]
      · simp only [Memory.read, ih]

/-! ### The canonical form -/

/-- A bound on the first address can be lowered. -/
theorem Memory.wfFrom_mono (m : Memory) (lo lo' : Nat) (h : Memory.wfFrom lo m = true) (hl : lo' ≤ lo) :
    Memory.wfFrom lo' m = true := by
  cases m with
  | nil => rfl
  | cons c m =>
    obtain ⟨k, b⟩ := c
    simp only [Memory.wfFrom, Bool.and_eq_true, decide_eq_true_eq] at h ⊢
    exact ⟨⟨by omega, h.1.2⟩, h.2⟩

/-- A write keeps the canonical form. -/
theorem Memory.wfFrom_write (m : Memory) : ∀ lo a b, Memory.wfFrom lo m = true → lo ≤ a → Memory.wfFrom lo (m.write a b) = true := by
  induction m with
  | nil =>
    intro lo a b _ hl
    unfold Memory.write Memory.cell
    split
    · rfl
    · rename_i hb
      simp only [Memory.wfFrom, Bool.and_eq_true, decide_eq_true_eq]
      exact ⟨⟨hl, hb⟩, trivial⟩
  | cons c m ih =>
    obtain ⟨k, d⟩ := c
    intro lo a b h hl
    have hw := h
    simp only [Memory.wfFrom, Bool.and_eq_true, decide_eq_true_eq] at h
    unfold Memory.write Memory.cell
    split
    · split
      · exact hw
      · rename_i hlt hb
        simp only [Memory.wfFrom, Bool.and_eq_true, decide_eq_true_eq]
        exact ⟨⟨hl, hb⟩, ⟨by omega, h.1.2⟩, h.2⟩
    · split
      · rename_i _ heq
        subst heq
        split
        · exact Memory.wfFrom_mono m (a + 1) lo h.2 (by omega)
        · rename_i hb
          simp only [Memory.wfFrom, Bool.and_eq_true, decide_eq_true_eq]
          exact ⟨⟨hl, hb⟩, h.2⟩
      · rename_i hlt hne
        simp only [Memory.wfFrom, Bool.and_eq_true, decide_eq_true_eq]
        exact ⟨h.1, ih (k + 1) a b h.2 (by omega)⟩

/-- A write keeps the canonical form. -/
theorem Memory.wf_write (m : Memory) (a : Nat) (b : Byte) (h : m.wf = true) : (m.write a b).wf = true :=
  Memory.wfFrom_write m 0 a b h (Nat.zero_le a)

/-- A write keeps any property that all listed cells and the written cell have. -/
theorem Memory.all_write (m : Memory) (p : Host.Cell → Bool) (a : Nat) (b : Byte) (h : m.all p = true) (hp : p (a, b) = true) :
    (m.write a b).all p = true := by
  induction m with
  | nil =>
    unfold Memory.write Memory.cell
    split
    · rfl
    · simp only [List.all_cons, List.all_nil, hp, Bool.and_self]
  | cons c m ih =>
    obtain ⟨k, d⟩ := c
    simp only [List.all_cons, Bool.and_eq_true] at h
    unfold Memory.write Memory.cell
    split
    · split
      · simp only [List.all_cons, h.1, h.2, Bool.and_self]
      · simp only [List.all_cons, h.1, h.2, hp, Bool.and_self]
    · split
      · split
        · exact h.2
        · simp only [List.all_cons, h.2, hp, Bool.and_self]
      · simp only [List.all_cons, h.1, ih h.2, Bool.and_self]

/-- A write inside the array's size keeps it inside its size, in canonical form. -/
theorem Memory.ok_write (size : Nat) (m : Memory) (a : Nat) (b : Byte) (h : Memory.ok size m = true) (ha : a < size) :
    Memory.ok size (m.write a b) = true := by
  simp only [Memory.ok, Bool.and_eq_true] at h ⊢
  exact ⟨Memory.wf_write m a b h.1, Memory.all_write m _ a b h.2 (decide_eq_true ha)⟩

/-- Beyond its size an array reads as unlisted. -/
theorem Memory.read_of_below (size : Nat) (m : Memory) (a : Nat) (h : m.below size = true) (ha : size ≤ a) :
    m.read a = Memory.unlisted := by
  induction m with
  | nil => rfl
  | cons c m ih =>
    obtain ⟨k, d⟩ := c
    simp only [Memory.below, List.all_cons, Bool.and_eq_true, decide_eq_true_eq] at h
    have hk : ¬ a = k := by omega
    simp only [Memory.read, hk, if_false]
    exact ih h.2

/-- Two arrays in canonical form that read alike everywhere are the same data. -/
theorem Memory.eq_of_read (m : Memory) : ∀ lo (m' : Memory), Memory.wfFrom lo m = true → Memory.wfFrom lo m' = true →
    (∀ a, m.read a = m'.read a) → m = m' := by
  induction m with
  | nil =>
    intro lo m' _ h' hr
    cases m' with
    | nil => rfl
    | cons c m' =>
      obtain ⟨k, d⟩ := c
      simp only [Memory.wfFrom, Bool.and_eq_true, decide_eq_true_eq] at h'
      have := hr k
      simp only [Memory.read, if_true] at this
      exact absurd this.symm h'.1.2
  | cons c m ih =>
    obtain ⟨k, d⟩ := c
    intro lo m' h h' hr
    have hw := h
    simp only [Memory.wfFrom, Bool.and_eq_true, decide_eq_true_eq] at h
    cases m' with
    | nil =>
      have := hr k
      simp only [Memory.read, if_true] at this
      exact absurd this h.1.2
    | cons c' m' =>
      obtain ⟨k', d'⟩ := c'
      have hw' := h'
      simp only [Memory.wfFrom, Bool.and_eq_true, decide_eq_true_eq] at h'
      have hkk : k = k' := by
        rcases Nat.lt_trichotomy k k' with hlt | heq | hgt
        · have := hr k
          have hne : ¬ k = k' := by omega
          simp only [Memory.read, if_true, hne, if_false] at this
          rw [Memory.read_of_lt m' (k' + 1) k h'.2 (by omega)] at this
          exact absurd this h.1.2
        · exact heq
        · have := hr k'
          have hne : ¬ k' = k := by omega
          simp only [Memory.read, if_true, hne, if_false] at this
          rw [Memory.read_of_lt m (k + 1) k' h.2 (by omega)] at this
          exact absurd this.symm h'.1.2
      subst hkk
      have hdd : d = d' := by
        have := hr k
        simpa only [Memory.read, if_true] using this
      subst hdd
      have hm : m = m' := by
        refine ih (k + 1) m' h.2 h'.2 fun a => ?_
        by_cases hak : a = k
        · subst hak
          rw [Memory.read_of_lt m (a + 1) a h.2 (by omega), Memory.read_of_lt m' (a + 1) a h'.2 (by omega)]
        · have := hr a
          simpa only [Memory.read, hak, if_false] using this
      rw [hm]

/-! ### Frame buffers -/

/-- Writing a six-bit colour index inside the screen keeps a frame buffer well formed. -/
theorem Frame.ok_setPixel (f : Frame) (px py : Nat) (b : Byte) (h : Frame.ok f = true) (hx : px < 256) (hb : b.toNat < 64) :
    Frame.ok (f.setPixel px py b) = true := by
  simp only [Frame.ok, Bool.and_eq_true, decide_eq_true_eq, List.all_eq_true] at h ⊢
  refine ⟨by simpa only [Frame.setPixel, List.length_set] using h.1, fun row hrow => ?_⟩
  rcases List.mem_or_eq_of_mem_set hrow with hmem | heq
  · exact h.2 row hmem
  · subst heq
    by_cases hpy : py < f.length
    · have hrow := h.2 (f.getD py []) (by
        rw [List.getD_eq_getElem?_getD, List.getElem?_eq_getElem hpy]
        exact List.getElem_mem hpy)
      refine ⟨Memory.ok_write 256 _ px b hrow.1 hx, ?_⟩
      have := Memory.all_write (f.getD py []) (fun cell => decide (cell.2.toNat < 64)) px b
        (by simpa only [List.all_eq_true, decide_eq_true_eq] using hrow.2) (decide_eq_true hb)
      simpa only [List.all_eq_true, decide_eq_true_eq] using this
    · have hnil : f.getD py [] = [] := by
        rw [List.getD_eq_getElem?_getD, List.getElem?_eq_none (by omega)]
        rfl
      rw [hnil]
      have h1 : Memory.ok 256 ([] : Memory) = true := rfl
      refine ⟨Memory.ok_write 256 [] px b h1 hx, ?_⟩
      have := Memory.all_write [] (fun cell => decide (cell.2.toNat < 64)) px b rfl (decide_eq_true hb)
      simpa only [List.all_eq_true, decide_eq_true_eq] using this

end Sys2Proof.Machine
end

