-- ==== Sys2Proof/Laws/Mapper.lean ====
section
/-! SUPPORT. The laws of the mapper: offsets stay inside the cartridge's memories, and what each operation changes. -/

namespace Sys2Proof.Machine

/-! ### Banks (R485) -/

/-- A byte of a bank lies inside the buffer. -/
theorem bank_add_lt (n size len off : Nat) (hoff : off < size) (hlen : size ≤ len) : bank n size len + off < len := by
  have hs : 0 < size := by omega
  have hc : 0 < bankCount size len := Nat.div_pos hlen hs
  have hm : n % bankCount size len < bankCount size len := Nat.mod_lt _ hc
  have h1 : (n % bankCount size len + 1) * size ≤ bankCount size len * size := Nat.mul_le_mul_right size hm
  have h2 : bankCount size len * size ≤ len := Nat.div_mul_le_self len size
  have h3 : (n % bankCount size len + 1) * size = bank n size len + size := by rw [Nat.succ_mul]; rfl
  omega

/-- A byte of a bank counted from the end lies inside the buffer. -/
theorem bankFromEnd_add_lt (k size len off : Nat) (hk : 0 < k) (hoff : off < size) (hlen : size ≤ len) :
    bankFromEnd k size len + off < len := by
  have hs : 0 < size := by omega
  have hc : 0 < bankCount size len := Nat.div_pos hlen hs
  have h1 : (bankCount size len - k + 1) * size ≤ bankCount size len * size := Nat.mul_le_mul_right size (by omega)
  have h2 : bankCount size len * size ≤ len := Nat.div_mul_le_self len size
  have h3 : (bankCount size len - k + 1) * size = bankFromEnd k size len + size := by rw [Nat.succ_mul]; rfl
  omega

/-- A positive multiple of a page is at least one page. -/
theorem page_le (page len : Nat) (h : 0 < len ∧ len % page = 0) : page ≤ len := by
  rcases Nat.lt_or_ge len page with hl | hl
  · have := Nat.mod_eq_of_lt hl
    omega
  · exact hl

/-- CHR offsets lie inside CHR (R490 to R493, R511, R523). -/
theorem Cart.chrOffset_lt (c : Cart) (a : Nat) (h : CartInv c) (ha : a < 0x2000) : c.chrOffset a < c.chrLen := by
  have hl : 0x2000 ≤ c.chrLen := page_le 0x2000 c.chrLen h.chrLen
  unfold Cart.chrOffset
  split
  · omega
  · omega
  · omega
  · exact bank_add_lt _ 0x2000 _ a ha hl
  · unfold Mmc1.chrOffset
    have hm : a % 0x1000 < 0x1000 := Nat.mod_lt _ (by decide)
    dsimp only
    split <;> split <;> exact bank_add_lt _ 0x1000 _ _ hm (by omega)
  · unfold Mmc3.chrOffset
    exact bank_add_lt _ 0x400 _ _ (Nat.mod_lt _ (by decide)) (by omega)

/-- PRG offsets lie inside PRG for every variant but AxROM, and for AxROM with at least 32 KB (R490 to R493, R510, R522). -/
theorem Cart.prgOffset_lt (c : Cart) (addr : Nat) (h : CartInv c) (hlo : 0x8000 ≤ addr) (hhi : addr < 0x10000)
    (hax : ∀ b, c.mapper = .axrom b → 0x8000 ≤ c.prgLen) : c.prgOffset addr < c.prgLen := by
  have hl : 0x4000 ≤ c.prgLen := page_le 0x4000 c.prgLen h.prgLen
  unfold Cart.prgOffset
  split
  · exact Nat.mod_lt _ (by omega)
  · exact Nat.mod_lt _ (by omega)
  · split
    · exact bank_add_lt _ 0x4000 _ (addr - 0x8000) (by omega) hl
    · exact bankFromEnd_add_lt 1 0x4000 _ (addr - 0xC000) (by decide) (by omega) hl
  · rename_i b hb
    exact bank_add_lt _ 0x8000 _ (addr - 0x8000) (by omega) (hax b hb)
  · unfold Mmc1.prgOffset
    have hm : addr % 0x4000 < 0x4000 := Nat.mod_lt _ (by decide)
    dsimp only
    split
    · split <;> exact bank_add_lt _ 0x4000 _ _ hm hl
    · split
      · exact bank_add_lt _ 0x4000 _ _ hm hl
      · exact bankFromEnd_add_lt 1 0x4000 _ _ (by decide) hm hl
    · split <;> exact bank_add_lt _ 0x4000 _ _ hm hl
  · unfold Mmc3.prgOffset
    have hm : addr % 0x2000 < 0x2000 := Nat.mod_lt _ (by decide)
    split
    · split
      · exact bankFromEnd_add_lt 2 0x2000 _ _ (by decide) hm (by omega)
      · exact bank_add_lt _ 0x2000 _ _ hm (by omega)
    · exact bank_add_lt _ 0x2000 _ _ hm (by omega)
    · split
      · exact bank_add_lt _ 0x2000 _ _ hm (by omega)
      · exact bankFromEnd_add_lt 2 0x2000 _ _ (by decide) hm (by omega)
    · exact bankFromEnd_add_lt 1 0x2000 _ _ (by decide) hm (by omega)

/-! ### What the operations change -/

/-- Two cartridges have the same memories: everything but the mapper's registers and the mirroring. -/
def Cart.SameMemories (c d : Cart) : Prop :=
  d.prg = c.prg ∧ d.prgLen = c.prgLen ∧ d.chr = c.chr ∧ d.chrLen = c.chrLen ∧ d.chrIsRam = c.chrIsRam ∧ d.sram = c.sram

theorem Cart.SameMemories.rfl (c : Cart) : c.SameMemories c := ⟨Eq.refl _, Eq.refl _, Eq.refl _, Eq.refl _, Eq.refl _, Eq.refl _⟩

theorem Cart.SameMemories.trans {c d e : Cart} (h : c.SameMemories d) (h' : d.SameMemories e) : c.SameMemories e :=
  ⟨h'.1.trans h.1, h'.2.1.trans h.2.1, h'.2.2.1.trans h.2.2.1, h'.2.2.2.1.trans h.2.2.2.1, h'.2.2.2.2.1.trans h.2.2.2.2.1,
    h'.2.2.2.2.2.trans h.2.2.2.2.2⟩

/-- `Commit` of MMC1 changes registers only. -/
theorem Cart.mmc1Commit_memories (c : Cart) (m : Mmc1) (addr : Nat) (v : BitVec 5) :
    c.SameMemories (c.mmc1Commit m addr v) := by
  unfold Cart.mmc1Commit
  split
  · exact Cart.SameMemories.rfl c
  · split
    · exact Cart.SameMemories.rfl c
    · split <;> exact Cart.SameMemories.rfl c

/-- A register write of MMC1 changes registers only. -/
theorem Cart.mmc1Write_memories (c : Cart) (m : Mmc1) (addr : Nat) (d : Byte) : c.SameMemories (c.mmc1Write m addr d) := by
  unfold Cart.mmc1Write
  split
  · exact Cart.SameMemories.rfl c
  · dsimp only
    split
    · exact Cart.mmc1Commit_memories c _ addr _
    · exact Cart.SameMemories.rfl c

/-- A register write of MMC3 changes registers only. -/
theorem Cart.mmc3Write_memories (c : Cart) (m : Mmc3) (addr : Nat) (d : Byte) : c.SameMemories (c.mmc3Write m addr d) := by
  unfold Cart.mmc3Write
  dsimp only
  split
  · split <;> exact Cart.SameMemories.rfl c
  · split
    · split <;> exact Cart.SameMemories.rfl c
    · split
      · split <;> exact Cart.SameMemories.rfl c
      · split <;> exact Cart.SameMemories.rfl c

/-- A register write changes registers only: PRG is never written (R484, D33). -/
theorem Cart.registerWrite_memories (c : Cart) (addr : Nat) (d : Byte) : c.SameMemories (c.registerWrite addr d) := by
  unfold Cart.registerWrite
  split
  · exact Cart.SameMemories.rfl c
  · exact Cart.SameMemories.rfl c
  · exact Cart.SameMemories.rfl c
  · exact Cart.SameMemories.rfl c
  · exact Cart.mmc1Write_memories c _ addr d
  · exact Cart.mmc3Write_memories c _ addr d

/-- The scanline clock changes the mapper's registers only (R530). -/
theorem Cart.scanlineClock_memories (c : Cart) : c.SameMemories c.scanlineClock := by
  unfold Cart.scanlineClock
  split <;> exact Cart.SameMemories.rfl c

/-- The scanline clock does not change the mirroring. -/
theorem Cart.scanlineClock_mirroring (c : Cart) : c.scanlineClock.mirroring = c.mirroring := by
  unfold Cart.scanlineClock
  split <;> rfl

/-! ### The invariant -/

/-- The invariant depends on the memories and on the mapper's registers alone. -/
theorem CartInv.of_memories {c d : Cart} (h : CartInv c) (hm : c.SameMemories d) (hd : MapperInv d.mapper) : CartInv d := by
  obtain ⟨h1, h2, h3, h4, _, h6⟩ := hm
  exact ⟨by rw [h2]; exact h.prgLen, by rw [h4]; exact h.chrLen, by rw [h1, h2]; exact h.prg, by rw [h3, h4]; exact h.chr,
    by rw [h6]; exact h.sram, hd⟩

/-- Bit `n` of the MMC1 shift register joins the `n` bits below it. -/
theorem mmc1_shift_lt (v : BitVec 5) (d : Byte) (n : Nat) (hv : v.toNat < 2 ^ n) :
    (v ||| ((d &&& 1#8).setWidth 5 <<< n)).toNat < 2 ^ (n + 1) := by
  rw [BitVec.toNat_or]
  refine Nat.or_lt_two_pow (Nat.lt_trans hv (Nat.pow_lt_pow_right (by decide) (by omega))) ?_
  rw [BitVec.toNat_shiftLeft, BitVec.toNat_setWidth, BitVec.toNat_and]
  refine Nat.lt_of_le_of_lt (Nat.mod_le _ _) ?_
  rw [Nat.shiftLeft_eq, Nat.pow_succ, Nat.mul_comm]
  refine Nat.mul_lt_mul_of_pos_left ?_ (Nat.two_pow_pos n)
  refine Nat.lt_of_le_of_lt (Nat.mod_le _ _) ?_
  exact Nat.lt_of_le_of_lt Nat.and_le_right (by decide)

/-- A register write keeps the registers in range. -/
theorem Cart.registerWrite_mapper (c : Cart) (addr : Nat) (d : Byte) (h : MapperInv c.mapper) :
    MapperInv (c.registerWrite addr d).mapper := by
  unfold Cart.registerWrite
  split
  · rename_i hm
    rw [hm]
    trivial
  · exact d.isLt
  · exact d.isLt
  · show (d &&& 7#8).toNat < 8
    rw [BitVec.toNat_and]
    exact Nat.lt_of_le_of_lt Nat.and_le_right (by decide)
  · rename_i m hm
    rw [hm] at h
    obtain ⟨hc, hv⟩ := h
    unfold Cart.mmc1Write
    split
    · exact ⟨Nat.zero_le _, Nat.zero_lt_one⟩
    · dsimp only
      split
      · unfold Cart.mmc1Commit
        split
        · exact ⟨Nat.zero_le _, Nat.zero_lt_one⟩
        · split
          · exact ⟨Nat.zero_le _, Nat.zero_lt_one⟩
          · split <;> exact ⟨Nat.zero_le _, Nat.zero_lt_one⟩
      · exact ⟨by dsimp only; omega, mmc1_shift_lt _ _ _ hv⟩
  · rename_i m hm
    rw [hm] at h
    have h8 : m.bankReg.length = 8 := h
    unfold Cart.mmc3Write
    dsimp only
    split
    · split
      · exact h8
      · show (m.bankReg.set _ _).length = 8
        rw [List.length_set]
        exact h8
    · split
      · split
        · show MapperInv c.mapper
          rw [hm]
          exact h8
        · rw [hm]
          exact h8
      · split
        · split <;> exact h8
        · split <;> exact h8

/-- A CPU write to the mapper window keeps the invariant (R484). -/
theorem CartInv.cpuWrite {c : Cart} (h : CartInv c) (addr : Nat) (d : Byte) : CartInv (c.cpuWrite addr d) := by
  unfold Cart.cpuWrite
  split
  · exact h
  · split
    · exact ⟨h.prgLen, h.chrLen, h.prg, h.chr, Memory.ok_write 8192 c.sram _ d h.sram (by omega), h.mapper⟩
    · exact h.of_memories (Cart.registerWrite_memories c addr d) (Cart.registerWrite_mapper c addr d h.mapper)

/-- A PPU write to CHR keeps the invariant (R486). -/
theorem CartInv.ppuBusWrite {c : Cart} (h : CartInv c) (addr : Nat) (v : Byte) : CartInv (c.ppuBusWrite addr v) := by
  unfold Cart.ppuBusWrite Cart.ppuWrite
  dsimp only
  split
  · rename_i ha
    split
    · exact ⟨h.prgLen, h.chrLen, h.prg, Memory.ok_write c.chrLen c.chr _ v h.chr (Cart.chrOffset_lt c _ h ha), h.sram, h.mapper⟩
    · exact h
  · exact h

/-- The scanline clock keeps the invariant (R530). -/
theorem CartInv.scanlineClock {c : Cart} (h : CartInv c) : CartInv c.scanlineClock := by
  refine h.of_memories (Cart.scanlineClock_memories c) ?_
  unfold Cart.scanlineClock
  split
  · rename_i m hm
    have h8 : m.bankReg.length = 8 := by
      have := h.mapper
      rw [hm] at this
      exact this
    show (m.clock).bankReg.length = 8
    unfold Mmc3.clock
    split <;> exact h8
  · exact h.mapper

end Sys2Proof.Machine
end

