-- ==== Sys2Proof/Laws/Ppu.lean ====
section
/-! SUPPORT. The laws of the PPU: what one PPU cycle leaves alone, and that every operation keeps the PPU's invariant. -/

namespace Sys2Proof.Machine

/-! ### What a PPU cycle leaves alone -/

/-- The PPU's memories and the registers that only a CPU access changes are the same. -/
structure Ppu.SameHeld (p q : Ppu) : Prop where
  oam        : q.oam = p.oam
  palette    : q.palette = p.palette
  vram       : q.vram = p.vram
  ctrl       : q.ctrl = p.ctrl
  mask       : q.mask = p.mask
  t          : q.t = p.t
  fineX      : q.fineX = p.fineX
  w          : q.w = p.w
  readBuffer : q.readBuffer = p.readBuffer
  oamAddr    : q.oamAddr = p.oamAddr

theorem Ppu.SameHeld.rfl {p : Ppu} : p.SameHeld p :=
  ⟨Eq.refl _, Eq.refl _, Eq.refl _, Eq.refl _, Eq.refl _, Eq.refl _, Eq.refl _, Eq.refl _, Eq.refl _, Eq.refl _⟩

theorem Ppu.SameHeld.trans {p q r : Ppu} (h : p.SameHeld q) (h' : q.SameHeld r) : p.SameHeld r :=
  ⟨h'.oam.trans h.oam, h'.palette.trans h.palette, h'.vram.trans h.vram, h'.ctrl.trans h.ctrl, h'.mask.trans h.mask,
    h'.t.trans h.t, h'.fineX.trans h.fineX, h'.w.trans h.w, h'.readBuffer.trans h.readBuffer, h'.oamAddr.trans h.oamAddr⟩

theorem Ppu.pixelPart_held (p : Ppu) (s c : Nat) : p.SameHeld (p.pixelPart s c) := by
  unfold Ppu.pixelPart
  split <;> exact ⟨rfl, rfl, rfl, rfl, rfl, rfl, rfl, rfl, rfl, rfl⟩

theorem Ppu.fetchPhase_held (p : Ppu) (cart : Cart) (n : Nat) : p.SameHeld (p.fetchPhase cart n) := by
  unfold Ppu.fetchPhase
  split <;> exact ⟨rfl, rfl, rfl, rfl, rfl, rfl, rfl, rfl, rfl, rfl⟩

theorem Ppu.fetchPart_held (p : Ppu) (cart : Cart) (c : Nat) : p.SameHeld (p.fetchPart cart c) := by
  unfold Ppu.fetchPart
  split
  · exact Ppu.SameHeld.trans (q := p.shiftBg) ⟨rfl, rfl, rfl, rfl, rfl, rfl, rfl, rfl, rfl, rfl⟩ (Ppu.fetchPhase_held _ cart _)
  · exact ⟨rfl, rfl, rfl, rfl, rfl, rfl, rfl, rfl, rfl, rfl⟩

theorem Ppu.scrollPart_held (p : Ppu) (s c : Nat) : p.SameHeld (p.scrollPart s c) := by
  unfold Ppu.scrollPart
  split
  · exact ⟨rfl, rfl, rfl, rfl, rfl, rfl, rfl, rfl, rfl, rfl⟩
  · split
    · exact ⟨rfl, rfl, rfl, rfl, rfl, rfl, rfl, rfl, rfl, rfl⟩
    · split <;> exact ⟨rfl, rfl, rfl, rfl, rfl, rfl, rfl, rfl, rfl, rfl⟩

theorem Ppu.spritePart_held (p : Ppu) (cart : Cart) (s c : Nat) : p.SameHeld (p.spritePart cart s c) := by
  unfold Ppu.spritePart
  split
  · split <;> exact ⟨rfl, rfl, rfl, rfl, rfl, rfl, rfl, rfl, rfl, rfl⟩
  · exact ⟨rfl, rfl, rfl, rfl, rfl, rfl, rfl, rfl, rfl, rfl⟩

theorem Ppu.renderPart_held (p : Ppu) (cart : Cart) (s c : Nat) : p.SameHeld (p.renderPart cart s c) := by
  unfold Ppu.renderPart
  split
  · exact ((Ppu.fetchPart_held p cart c).trans (Ppu.scrollPart_held _ s c)).trans (Ppu.spritePart_held _ cart s c)
  · exact ⟨rfl, rfl, rfl, rfl, rfl, rfl, rfl, rfl, rfl, rfl⟩

theorem Ppu.statusPart_held (p : Ppu) (s c : Nat) : p.SameHeld (p.statusPart s c) := by
  unfold Ppu.statusPart
  split
  · exact ⟨rfl, rfl, rfl, rfl, rfl, rfl, rfl, rfl, rfl, rfl⟩
  · split <;> exact ⟨rfl, rfl, rfl, rfl, rfl, rfl, rfl, rfl, rfl, rfl⟩

theorem Ppu.advance_held (p : Ppu) : p.SameHeld p.advance := by
  unfold Ppu.advance
  split
  · split <;> exact ⟨rfl, rfl, rfl, rfl, rfl, rfl, rfl, rfl, rfl, rfl⟩
  · exact ⟨rfl, rfl, rfl, rfl, rfl, rfl, rfl, rfl, rfl, rfl⟩

/-- One PPU cycle changes neither the PPU's memories nor the registers of its port (R400). -/
theorem Ppu.dot_held (p : Ppu) (cart : Cart) : p.SameHeld (p.dot cart) := by
  unfold Ppu.dot
  exact (((Ppu.pixelPart_held p _ _).trans (Ppu.renderPart_held _ cart _ _)).trans (Ppu.statusPart_held _ _ _)).trans
    (Ppu.advance_held _)

/-! ### The position -/

/-- The scanline and cycle of the position are the same. -/
def Ppu.SamePosition (p q : Ppu) : Prop := q.scanline = p.scanline ∧ q.cycle = p.cycle

theorem Ppu.pixelPart_position (p : Ppu) (s c : Nat) : p.SamePosition (p.pixelPart s c) := by
  unfold Ppu.pixelPart
  split <;> exact ⟨rfl, rfl⟩

theorem Ppu.renderPart_position (p : Ppu) (cart : Cart) (s c : Nat) : p.SamePosition (p.renderPart cart s c) := by
  unfold Ppu.renderPart
  split
  · have h1 : p.SamePosition (p.fetchPart cart c) := by
      unfold Ppu.fetchPart
      split
      · unfold Ppu.fetchPhase
        split <;> exact ⟨rfl, rfl⟩
      · exact ⟨rfl, rfl⟩
    have h2 : (p.fetchPart cart c).SamePosition ((p.fetchPart cart c).scrollPart s c) := by
      unfold Ppu.scrollPart
      split
      · exact ⟨rfl, rfl⟩
      · split
        · exact ⟨rfl, rfl⟩
        · split <;> exact ⟨rfl, rfl⟩
    have h3 : ((p.fetchPart cart c).scrollPart s c).SamePosition (((p.fetchPart cart c).scrollPart s c).spritePart cart s c) := by
      unfold Ppu.spritePart
      split
      · split <;> exact ⟨rfl, rfl⟩
      · exact ⟨rfl, rfl⟩
    exact ⟨h3.1.trans (h2.1.trans h1.1), h3.2.trans (h2.2.trans h1.2)⟩
  · exact ⟨rfl, rfl⟩

theorem Ppu.statusPart_position (p : Ppu) (s c : Nat) : p.SamePosition (p.statusPart s c) := by
  unfold Ppu.statusPart
  split
  · exact ⟨rfl, rfl⟩
  · split <;> exact ⟨rfl, rfl⟩

/-! ### The sprite cache -/

/-- Every index of a range list lies below 64. -/
theorem Ppu.spritesInRange_lt (p : Ppu) (s i : Nat) (h : i ∈ (p.spritesInRange s).take 8) : i < 64 := by
  have h1 := List.mem_of_mem_take h
  unfold Ppu.spritesInRange at h1
  exact List.mem_range.mp (List.mem_filter.mp h1).1

/-- Filling the cache keeps its length and the bound on the indexes. -/
theorem Ppu.cacheSprites_inv (p : Ppu) (cart : Cart) (s : Nat) (is : List Nat) : ∀ (n : Nat) (cache : List Sprite),
    (∀ i ∈ is, i < 64) → (∀ sp ∈ cache, sp.index < 64) →
    (p.cacheSprites cart s is n cache).length = cache.length ∧ ∀ sp ∈ p.cacheSprites cart s is n cache, sp.index < 64 := by
  induction is with
  | nil => intro n cache _ hc; exact ⟨rfl, hc⟩
  | cons i is ih =>
    intro n cache hi hc
    have := ih (n + 1) (cache.set n (p.spriteEntry cart s i)) (fun j hj => hi j (List.mem_cons_of_mem _ hj)) (by
      intro sp hsp
      rcases List.mem_or_eq_of_mem_set hsp with hm | he
      · exact hc sp hm
      · rw [he]
        exact hi i List.mem_cons_self)
    rw [List.length_set] at this
    exact this

/-- Sprite evaluation keeps the cache's invariant (R450). -/
theorem Ppu.evaluateSprites_inv (p : Ppu) (cart : Cart) (s : Nat) (h : SpriteCacheInv p) : SpriteCacheInv (p.evaluateSprites cart s) := by
  have hc := Ppu.cacheSprites_inv p cart s ((p.spritesInRange s).take 8) 0 p.sprites
    (fun i hi => Ppu.spritesInRange_lt p s i hi) h.index
  exact ⟨hc.1.trans h.length, Nat.min_le_right _ _, hc.2⟩

/-! ### The invariant -/

/-- The invariant without the position and the pictures depends on these fields alone. -/
theorem PpuInv.of_held {p q : Ppu} (h : PpuInv p) (hq : p.SameHeld q) (hp : p.SamePosition q) (hs : SpriteCacheInv q)
    (hb : Frame.ok q.back = true) (hf : q.front = p.front) : PpuInv q :=
  ⟨by rw [hp.1]; exact h.scanline, by rw [hp.2]; exact h.cycle, by rw [hq.oam]; exact h.oam, by rw [hq.palette]; exact h.palette,
    by rw [hq.vram]; exact h.vram, hs, hb, by rw [hf]; exact h.front⟩

theorem PpuInv.pixelPart {p : Ppu} (h : PpuInv p) (s c : Nat) : PpuInv (p.pixelPart s c) := by
  unfold Ppu.pixelPart
  split
  · rename_i hc
    simp only [Bool.and_eq_true, decide_eq_true_eq] at hc
    refine h.of_held ⟨rfl, rfl, rfl, rfl, rfl, rfl, rfl, rfl, rfl, rfl⟩ ⟨rfl, rfl⟩ ⟨h.sprites.length, h.sprites.count, h.sprites.index⟩ ?_ rfl
    refine Frame.ok_setPixel _ _ _ _ h.back (by omega) ?_
    rw [BitVec.toNat_and]
    exact Nat.lt_of_le_of_lt Nat.and_le_right (by decide)
  · exact h

theorem PpuInv.renderPart {p : Ppu} (h : PpuInv p) (cart : Cart) (s c : Nat) : PpuInv (p.renderPart cart s c) := by
  have hs1 : SpriteCacheInv (p.fetchPart cart c) ∧ (p.fetchPart cart c).back = p.back ∧ (p.fetchPart cart c).front = p.front := by
    unfold Ppu.fetchPart
    split
    · unfold Ppu.fetchPhase
      split <;> exact ⟨⟨h.sprites.length, h.sprites.count, h.sprites.index⟩, rfl, rfl⟩
    · exact ⟨h.sprites, rfl, rfl⟩
  have hs2 : ∀ q : Ppu, SpriteCacheInv q →
      SpriteCacheInv (q.scrollPart s c) ∧ (q.scrollPart s c).back = q.back ∧ (q.scrollPart s c).front = q.front := by
    intro q hq
    have hq' : SpriteCacheInv q ∧ q.back = q.back ∧ q.front = q.front := ⟨hq, rfl, rfl⟩
    unfold Ppu.scrollPart
    split
    · exact ⟨⟨hq.length, hq.count, hq.index⟩, rfl, rfl⟩
    · split
      · exact ⟨⟨hq.length, hq.count, hq.index⟩, rfl, rfl⟩
      · split
        · exact ⟨⟨hq.length, hq.count, hq.index⟩, rfl, rfl⟩
        · exact hq'
  have hs3 : ∀ q : Ppu, SpriteCacheInv q → SpriteCacheInv (q.spritePart cart s c) ∧ (q.spritePart cart s c).back = q.back ∧
      (q.spritePart cart s c).front = q.front := by
    intro q hq
    unfold Ppu.spritePart
    split
    · split
      · exact ⟨Ppu.evaluateSprites_inv q cart s hq, rfl, rfl⟩
      · exact ⟨⟨hq.length, Nat.zero_le 8, hq.index⟩, rfl, rfl⟩
    · exact ⟨hq, rfl, rfl⟩
  have hh := Ppu.renderPart_held p cart s c
  have hpos := Ppu.renderPart_position p cart s c
  have h2 := hs2 _ hs1.1
  have h3 := hs3 _ h2.1
  refine h.of_held hh hpos ?_ ?_ ?_
  · unfold Ppu.renderPart
    split
    · exact h3.1
    · exact h.sprites
  · unfold Ppu.renderPart
    split
    · rw [h3.2.1, h2.2.1, hs1.2.1]
      exact h.back
    · exact h.back
  · unfold Ppu.renderPart
    split
    · rw [h3.2.2, h2.2.2, hs1.2.2]
    · rfl

theorem PpuInv.statusPart {p : Ppu} (h : PpuInv p) (s c : Nat) : PpuInv (p.statusPart s c) := by
  unfold Ppu.statusPart
  split
  · exact h.of_held ⟨rfl, rfl, rfl, rfl, rfl, rfl, rfl, rfl, rfl, rfl⟩ ⟨rfl, rfl⟩ ⟨h.sprites.length, h.sprites.count, h.sprites.index⟩ h.back rfl
  · split
    · exact h.of_held ⟨rfl, rfl, rfl, rfl, rfl, rfl, rfl, rfl, rfl, rfl⟩ ⟨rfl, rfl⟩ ⟨h.sprites.length, h.sprites.count, h.sprites.index⟩ h.back rfl
    · exact h

theorem PpuInv.advance {p : Ppu} (h : PpuInv p) : PpuInv p.advance := by
  have hs : SpriteCacheInv p.advance := by
    unfold Ppu.advance
    split
    · split <;> exact ⟨h.sprites.length, h.sprites.count, h.sprites.index⟩
    · exact ⟨h.sprites.length, h.sprites.count, h.sprites.index⟩
  have hsl := h.scanline
  have hcy := h.cycle
  unfold Ppu.advance at hs ⊢
  split
  · split
    · exact ⟨Nat.zero_le _, Nat.zero_le _, h.oam, h.palette, h.vram, ⟨h.sprites.length, h.sprites.count, h.sprites.index⟩, h.front, h.back⟩
    · rename_i hn
      have hn' : ¬ p.scanline + 1 = 262 := hn
      exact ⟨by show p.scanline + 1 ≤ 261; omega, Nat.zero_le _, h.oam, h.palette, h.vram,
        ⟨h.sprites.length, h.sprites.count, h.sprites.index⟩, h.back, h.front⟩
  · rename_i hn
    have hn' : ¬ p.cycle + 1 = 341 := hn
    exact ⟨hsl, by show p.cycle + 1 ≤ 340; omega, h.oam, h.palette, h.vram,
      ⟨h.sprites.length, h.sprites.count, h.sprites.index⟩, h.back, h.front⟩

/-- One PPU cycle keeps the invariant (R400, R401). -/
theorem PpuInv.dot {p : Ppu} (h : PpuInv p) (cart : Cart) : PpuInv (p.dot cart) :=
  (((h.pixelPart _ _).renderPart cart _ _).statusPart _ _).advance

/-- A change of the port's own registers keeps the invariant. -/
theorem PpuInv.registers {p q : Ppu} (h : PpuInv p) (hoam : q.oam = p.oam) (hpal : q.palette = p.palette) (hvram : q.vram = p.vram)
    (hpos : p.SamePosition q) (hs : q.sprites = p.sprites) (hc : q.spriteCount = p.spriteCount) (hb : q.back = p.back)
    (hf : q.front = p.front) : PpuInv q :=
  ⟨by rw [hpos.1]; exact h.scanline, by rw [hpos.2]; exact h.cycle, by rw [hoam]; exact h.oam, by rw [hpal]; exact h.palette,
    by rw [hvram]; exact h.vram, ⟨by rw [hs]; exact h.sprites.length, by rw [hc]; exact h.sprites.count,
      by rw [hs]; exact h.sprites.index⟩, by rw [hb]; exact h.back, by rw [hf]; exact h.front⟩

/-- A nametable index lies inside the 2 KB store (R124). -/
theorem ntIndex_lt (m : Mirroring) (a : Nat) : ntIndex m a < 0x800 := by
  unfold ntIndex
  dsimp only
  have hv : physicalTable m ((a - 0x2000) % 0x1000 / 0x400) ≤ 1 := by
    unfold physicalTable
    split
    · split <;> decide
    · omega
    · decide
    · decide
  have hr : (a - 0x2000) % 0x1000 % 0x400 < 0x400 := Nat.mod_lt _ (by decide)
  omega

/-- A palette index lies inside the 32 entries (R125). -/
theorem palIndex_lt (a : Nat) : palIndex a < 32 := by
  unfold palIndex
  dsimp only
  split <;> omega

/-- A write to the PPU's memories keeps the invariant (R122). -/
theorem PpuInv.write {p : Ppu} (h : PpuInv p) (cart : Cart) (addr : Nat) (v : Byte) : PpuInv (p.write cart addr v) := by
  unfold Ppu.write
  dsimp only
  split
  · exact h
  · split
    · exact ⟨h.scanline, h.cycle, h.oam, h.palette, Memory.ok_write 2048 _ _ v h.vram (ntIndex_lt _ _),
        ⟨h.sprites.length, h.sprites.count, h.sprites.index⟩, h.back, h.front⟩
    · exact ⟨h.scanline, h.cycle, h.oam, Memory.ok_write 32 _ _ v h.palette (palIndex_lt _), h.vram,
        ⟨h.sprites.length, h.sprites.count, h.sprites.index⟩, h.back, h.front⟩

/-- A write to OAM keeps the invariant (R387). -/
theorem PpuInv.oamPush {p : Ppu} (h : PpuInv p) (d : Byte) : PpuInv (p.oamPush d) :=
  ⟨h.scanline, h.cycle, Memory.ok_write 256 _ _ d h.oam p.oamAddr.isLt, h.palette, h.vram,
    ⟨h.sprites.length, h.sprites.count, h.sprites.index⟩, h.back, h.front⟩

end Sys2Proof.Machine
end

