-- ==== Sys2Proof/Laws/State.lean ====
section
/-! SUPPORT. One lemma for each field of State and of the register file under each update, so that no proof unfolds a record
update. -/

namespace Sys2Proof.Machine

/-! ### `State.setCpu` -/

@[simp] theorem State.setCpu_cpu (s : State) (v : Cpu) : (s.setCpu v).cpu = v := rfl
@[simp] theorem State.setCpu_irq (s : State) (v : Cpu) : (s.setCpu v).irq = s.irq := rfl
@[simp] theorem State.setCpu_cycles (s : State) (v : Cpu) : (s.setCpu v).cycles = s.cycles := rfl
@[simp] theorem State.setCpu_jammed (s : State) (v : Cpu) : (s.setCpu v).jammed = s.jammed := rfl
@[simp] theorem State.setCpu_frameReady (s : State) (v : Cpu) : (s.setCpu v).frameReady = s.frameReady := rfl
@[simp] theorem State.setCpu_started (s : State) (v : Cpu) : (s.setCpu v).started = s.started := rfl
@[simp] theorem State.setCpu_bus (s : State) (v : Cpu) : (s.setCpu v).bus = s.bus := rfl
@[simp] theorem State.setCpu_ppu (s : State) (v : Cpu) : (s.setCpu v).ppu = s.ppu := rfl
@[simp] theorem State.setCpu_cart (s : State) (v : Cpu) : (s.setCpu v).cart = s.cart := rfl
@[simp] theorem State.setCpu_io (s : State) (v : Cpu) : (s.setCpu v).io = s.io := rfl
@[simp] theorem State.setCpu_openBusDecay (s : State) (v : Cpu) : (s.setCpu v).openBusDecay = s.openBusDecay := rfl
@[simp] theorem State.setCpu_setCpu (s : State) (u v : Cpu) : (s.setCpu u).setCpu v = s.setCpu v := rfl
@[simp] theorem State.setCpu_self (s : State) : s.setCpu s.cpu = s := rfl

/-! ### `State.setIrq` -/

@[simp] theorem State.setIrq_cpu (s : State) (v : Coordinator) : (s.setIrq v).cpu = s.cpu := rfl
@[simp] theorem State.setIrq_irq (s : State) (v : Coordinator) : (s.setIrq v).irq = v := rfl
@[simp] theorem State.setIrq_cycles (s : State) (v : Coordinator) : (s.setIrq v).cycles = s.cycles := rfl
@[simp] theorem State.setIrq_jammed (s : State) (v : Coordinator) : (s.setIrq v).jammed = s.jammed := rfl
@[simp] theorem State.setIrq_frameReady (s : State) (v : Coordinator) : (s.setIrq v).frameReady = s.frameReady := rfl
@[simp] theorem State.setIrq_started (s : State) (v : Coordinator) : (s.setIrq v).started = s.started := rfl
@[simp] theorem State.setIrq_bus (s : State) (v : Coordinator) : (s.setIrq v).bus = s.bus := rfl
@[simp] theorem State.setIrq_ppu (s : State) (v : Coordinator) : (s.setIrq v).ppu = s.ppu := rfl
@[simp] theorem State.setIrq_cart (s : State) (v : Coordinator) : (s.setIrq v).cart = s.cart := rfl
@[simp] theorem State.setIrq_io (s : State) (v : Coordinator) : (s.setIrq v).io = s.io := rfl
@[simp] theorem State.setIrq_openBusDecay (s : State) (v : Coordinator) : (s.setIrq v).openBusDecay = s.openBusDecay := rfl
@[simp] theorem State.setIrq_setIrq (s : State) (u v : Coordinator) : (s.setIrq u).setIrq v = s.setIrq v := rfl
@[simp] theorem State.setIrq_self (s : State) : s.setIrq s.irq = s := rfl

/-! ### `State.setBus` -/

@[simp] theorem State.setBus_cpu (s : State) (v : Bus) : (s.setBus v).cpu = s.cpu := rfl
@[simp] theorem State.setBus_irq (s : State) (v : Bus) : (s.setBus v).irq = s.irq := rfl
@[simp] theorem State.setBus_cycles (s : State) (v : Bus) : (s.setBus v).cycles = s.cycles := rfl
@[simp] theorem State.setBus_jammed (s : State) (v : Bus) : (s.setBus v).jammed = s.jammed := rfl
@[simp] theorem State.setBus_frameReady (s : State) (v : Bus) : (s.setBus v).frameReady = s.frameReady := rfl
@[simp] theorem State.setBus_started (s : State) (v : Bus) : (s.setBus v).started = s.started := rfl
@[simp] theorem State.setBus_bus (s : State) (v : Bus) : (s.setBus v).bus = v := rfl
@[simp] theorem State.setBus_ppu (s : State) (v : Bus) : (s.setBus v).ppu = s.ppu := rfl
@[simp] theorem State.setBus_cart (s : State) (v : Bus) : (s.setBus v).cart = s.cart := rfl
@[simp] theorem State.setBus_io (s : State) (v : Bus) : (s.setBus v).io = s.io := rfl
@[simp] theorem State.setBus_openBusDecay (s : State) (v : Bus) : (s.setBus v).openBusDecay = s.openBusDecay := rfl
@[simp] theorem State.setBus_setBus (s : State) (u v : Bus) : (s.setBus u).setBus v = s.setBus v := rfl
@[simp] theorem State.setBus_self (s : State) : s.setBus s.bus = s := rfl

/-! ### `State.setPpu` -/

@[simp] theorem State.setPpu_cpu (s : State) (v : Ppu) : (s.setPpu v).cpu = s.cpu := rfl
@[simp] theorem State.setPpu_irq (s : State) (v : Ppu) : (s.setPpu v).irq = s.irq := rfl
@[simp] theorem State.setPpu_cycles (s : State) (v : Ppu) : (s.setPpu v).cycles = s.cycles := rfl
@[simp] theorem State.setPpu_jammed (s : State) (v : Ppu) : (s.setPpu v).jammed = s.jammed := rfl
@[simp] theorem State.setPpu_frameReady (s : State) (v : Ppu) : (s.setPpu v).frameReady = s.frameReady := rfl
@[simp] theorem State.setPpu_started (s : State) (v : Ppu) : (s.setPpu v).started = s.started := rfl
@[simp] theorem State.setPpu_bus (s : State) (v : Ppu) : (s.setPpu v).bus = s.bus := rfl
@[simp] theorem State.setPpu_ppu (s : State) (v : Ppu) : (s.setPpu v).ppu = v := rfl
@[simp] theorem State.setPpu_cart (s : State) (v : Ppu) : (s.setPpu v).cart = s.cart := rfl
@[simp] theorem State.setPpu_io (s : State) (v : Ppu) : (s.setPpu v).io = s.io := rfl
@[simp] theorem State.setPpu_openBusDecay (s : State) (v : Ppu) : (s.setPpu v).openBusDecay = s.openBusDecay := rfl
@[simp] theorem State.setPpu_setPpu (s : State) (u v : Ppu) : (s.setPpu u).setPpu v = s.setPpu v := rfl
@[simp] theorem State.setPpu_self (s : State) : s.setPpu s.ppu = s := rfl

/-! ### `State.setCart` -/

@[simp] theorem State.setCart_cpu (s : State) (v : Cart) : (s.setCart v).cpu = s.cpu := rfl
@[simp] theorem State.setCart_irq (s : State) (v : Cart) : (s.setCart v).irq = s.irq := rfl
@[simp] theorem State.setCart_cycles (s : State) (v : Cart) : (s.setCart v).cycles = s.cycles := rfl
@[simp] theorem State.setCart_jammed (s : State) (v : Cart) : (s.setCart v).jammed = s.jammed := rfl
@[simp] theorem State.setCart_frameReady (s : State) (v : Cart) : (s.setCart v).frameReady = s.frameReady := rfl
@[simp] theorem State.setCart_started (s : State) (v : Cart) : (s.setCart v).started = s.started := rfl
@[simp] theorem State.setCart_bus (s : State) (v : Cart) : (s.setCart v).bus = s.bus := rfl
@[simp] theorem State.setCart_ppu (s : State) (v : Cart) : (s.setCart v).ppu = s.ppu := rfl
@[simp] theorem State.setCart_cart (s : State) (v : Cart) : (s.setCart v).cart = v := rfl
@[simp] theorem State.setCart_io (s : State) (v : Cart) : (s.setCart v).io = s.io := rfl
@[simp] theorem State.setCart_openBusDecay (s : State) (v : Cart) : (s.setCart v).openBusDecay = s.openBusDecay := rfl
@[simp] theorem State.setCart_setCart (s : State) (u v : Cart) : (s.setCart u).setCart v = s.setCart v := rfl
@[simp] theorem State.setCart_self (s : State) : s.setCart s.cart = s := rfl

/-! ### `State.setIo` -/

@[simp] theorem State.setIo_cpu (s : State) (v : IoPort) : (s.setIo v).cpu = s.cpu := rfl
@[simp] theorem State.setIo_irq (s : State) (v : IoPort) : (s.setIo v).irq = s.irq := rfl
@[simp] theorem State.setIo_cycles (s : State) (v : IoPort) : (s.setIo v).cycles = s.cycles := rfl
@[simp] theorem State.setIo_jammed (s : State) (v : IoPort) : (s.setIo v).jammed = s.jammed := rfl
@[simp] theorem State.setIo_frameReady (s : State) (v : IoPort) : (s.setIo v).frameReady = s.frameReady := rfl
@[simp] theorem State.setIo_started (s : State) (v : IoPort) : (s.setIo v).started = s.started := rfl
@[simp] theorem State.setIo_bus (s : State) (v : IoPort) : (s.setIo v).bus = s.bus := rfl
@[simp] theorem State.setIo_ppu (s : State) (v : IoPort) : (s.setIo v).ppu = s.ppu := rfl
@[simp] theorem State.setIo_cart (s : State) (v : IoPort) : (s.setIo v).cart = s.cart := rfl
@[simp] theorem State.setIo_io (s : State) (v : IoPort) : (s.setIo v).io = v := rfl
@[simp] theorem State.setIo_openBusDecay (s : State) (v : IoPort) : (s.setIo v).openBusDecay = s.openBusDecay := rfl
@[simp] theorem State.setIo_setIo (s : State) (u v : IoPort) : (s.setIo u).setIo v = s.setIo v := rfl
@[simp] theorem State.setIo_self (s : State) : s.setIo s.io = s := rfl

/-! ### `State.setCycles` -/

@[simp] theorem State.setCycles_cpu (s : State) (v : Nat) : (s.setCycles v).cpu = s.cpu := rfl
@[simp] theorem State.setCycles_irq (s : State) (v : Nat) : (s.setCycles v).irq = s.irq := rfl
@[simp] theorem State.setCycles_cycles (s : State) (v : Nat) : (s.setCycles v).cycles = v := rfl
@[simp] theorem State.setCycles_jammed (s : State) (v : Nat) : (s.setCycles v).jammed = s.jammed := rfl
@[simp] theorem State.setCycles_frameReady (s : State) (v : Nat) : (s.setCycles v).frameReady = s.frameReady := rfl
@[simp] theorem State.setCycles_started (s : State) (v : Nat) : (s.setCycles v).started = s.started := rfl
@[simp] theorem State.setCycles_bus (s : State) (v : Nat) : (s.setCycles v).bus = s.bus := rfl
@[simp] theorem State.setCycles_ppu (s : State) (v : Nat) : (s.setCycles v).ppu = s.ppu := rfl
@[simp] theorem State.setCycles_cart (s : State) (v : Nat) : (s.setCycles v).cart = s.cart := rfl
@[simp] theorem State.setCycles_io (s : State) (v : Nat) : (s.setCycles v).io = s.io := rfl
@[simp] theorem State.setCycles_openBusDecay (s : State) (v : Nat) : (s.setCycles v).openBusDecay = s.openBusDecay := rfl
@[simp] theorem State.setCycles_setCycles (s : State) (u v : Nat) : (s.setCycles u).setCycles v = s.setCycles v := rfl
@[simp] theorem State.setCycles_self (s : State) : s.setCycles s.cycles = s := rfl

/-! ### `State.setJammed` -/

@[simp] theorem State.setJammed_cpu (s : State) (v : Bool) : (s.setJammed v).cpu = s.cpu := rfl
@[simp] theorem State.setJammed_irq (s : State) (v : Bool) : (s.setJammed v).irq = s.irq := rfl
@[simp] theorem State.setJammed_cycles (s : State) (v : Bool) : (s.setJammed v).cycles = s.cycles := rfl
@[simp] theorem State.setJammed_jammed (s : State) (v : Bool) : (s.setJammed v).jammed = v := rfl
@[simp] theorem State.setJammed_frameReady (s : State) (v : Bool) : (s.setJammed v).frameReady = s.frameReady := rfl
@[simp] theorem State.setJammed_started (s : State) (v : Bool) : (s.setJammed v).started = s.started := rfl
@[simp] theorem State.setJammed_bus (s : State) (v : Bool) : (s.setJammed v).bus = s.bus := rfl
@[simp] theorem State.setJammed_ppu (s : State) (v : Bool) : (s.setJammed v).ppu = s.ppu := rfl
@[simp] theorem State.setJammed_cart (s : State) (v : Bool) : (s.setJammed v).cart = s.cart := rfl
@[simp] theorem State.setJammed_io (s : State) (v : Bool) : (s.setJammed v).io = s.io := rfl
@[simp] theorem State.setJammed_openBusDecay (s : State) (v : Bool) : (s.setJammed v).openBusDecay = s.openBusDecay := rfl
@[simp] theorem State.setJammed_setJammed (s : State) (u v : Bool) : (s.setJammed u).setJammed v = s.setJammed v := rfl
@[simp] theorem State.setJammed_self (s : State) : s.setJammed s.jammed = s := rfl

/-! ### `State.setFrameReady` -/

@[simp] theorem State.setFrameReady_cpu (s : State) (v : Bool) : (s.setFrameReady v).cpu = s.cpu := rfl
@[simp] theorem State.setFrameReady_irq (s : State) (v : Bool) : (s.setFrameReady v).irq = s.irq := rfl
@[simp] theorem State.setFrameReady_cycles (s : State) (v : Bool) : (s.setFrameReady v).cycles = s.cycles := rfl
@[simp] theorem State.setFrameReady_jammed (s : State) (v : Bool) : (s.setFrameReady v).jammed = s.jammed := rfl
@[simp] theorem State.setFrameReady_frameReady (s : State) (v : Bool) : (s.setFrameReady v).frameReady = v := rfl
@[simp] theorem State.setFrameReady_started (s : State) (v : Bool) : (s.setFrameReady v).started = s.started := rfl
@[simp] theorem State.setFrameReady_bus (s : State) (v : Bool) : (s.setFrameReady v).bus = s.bus := rfl
@[simp] theorem State.setFrameReady_ppu (s : State) (v : Bool) : (s.setFrameReady v).ppu = s.ppu := rfl
@[simp] theorem State.setFrameReady_cart (s : State) (v : Bool) : (s.setFrameReady v).cart = s.cart := rfl
@[simp] theorem State.setFrameReady_io (s : State) (v : Bool) : (s.setFrameReady v).io = s.io := rfl
@[simp] theorem State.setFrameReady_openBusDecay (s : State) (v : Bool) : (s.setFrameReady v).openBusDecay = s.openBusDecay := rfl
@[simp] theorem State.setFrameReady_setFrameReady (s : State) (u v : Bool) : (s.setFrameReady u).setFrameReady v = s.setFrameReady v := rfl
@[simp] theorem State.setFrameReady_self (s : State) : s.setFrameReady s.frameReady = s := rfl

/-! ### `Cpu.setA` -/

@[simp] theorem Cpu.setA_a (c : Cpu) (v : Byte) : (c.setA v).a = v := rfl
@[simp] theorem Cpu.setA_x (c : Cpu) (v : Byte) : (c.setA v).x = c.x := rfl
@[simp] theorem Cpu.setA_y (c : Cpu) (v : Byte) : (c.setA v).y = c.y := rfl
@[simp] theorem Cpu.setA_sp (c : Cpu) (v : Byte) : (c.setA v).sp = c.sp := rfl
@[simp] theorem Cpu.setA_pc (c : Cpu) (v : Byte) : (c.setA v).pc = c.pc := rfl
@[simp] theorem Cpu.setA_p (c : Cpu) (v : Byte) : (c.setA v).p = c.p := rfl

/-! ### `Cpu.setX` -/

@[simp] theorem Cpu.setX_a (c : Cpu) (v : Byte) : (c.setX v).a = c.a := rfl
@[simp] theorem Cpu.setX_x (c : Cpu) (v : Byte) : (c.setX v).x = v := rfl
@[simp] theorem Cpu.setX_y (c : Cpu) (v : Byte) : (c.setX v).y = c.y := rfl
@[simp] theorem Cpu.setX_sp (c : Cpu) (v : Byte) : (c.setX v).sp = c.sp := rfl
@[simp] theorem Cpu.setX_pc (c : Cpu) (v : Byte) : (c.setX v).pc = c.pc := rfl
@[simp] theorem Cpu.setX_p (c : Cpu) (v : Byte) : (c.setX v).p = c.p := rfl

/-! ### `Cpu.setY` -/

@[simp] theorem Cpu.setY_a (c : Cpu) (v : Byte) : (c.setY v).a = c.a := rfl
@[simp] theorem Cpu.setY_x (c : Cpu) (v : Byte) : (c.setY v).x = c.x := rfl
@[simp] theorem Cpu.setY_y (c : Cpu) (v : Byte) : (c.setY v).y = v := rfl
@[simp] theorem Cpu.setY_sp (c : Cpu) (v : Byte) : (c.setY v).sp = c.sp := rfl
@[simp] theorem Cpu.setY_pc (c : Cpu) (v : Byte) : (c.setY v).pc = c.pc := rfl
@[simp] theorem Cpu.setY_p (c : Cpu) (v : Byte) : (c.setY v).p = c.p := rfl

/-! ### `Cpu.setSp` -/

@[simp] theorem Cpu.setSp_a (c : Cpu) (v : Byte) : (c.setSp v).a = c.a := rfl
@[simp] theorem Cpu.setSp_x (c : Cpu) (v : Byte) : (c.setSp v).x = c.x := rfl
@[simp] theorem Cpu.setSp_y (c : Cpu) (v : Byte) : (c.setSp v).y = c.y := rfl
@[simp] theorem Cpu.setSp_sp (c : Cpu) (v : Byte) : (c.setSp v).sp = v := rfl
@[simp] theorem Cpu.setSp_pc (c : Cpu) (v : Byte) : (c.setSp v).pc = c.pc := rfl
@[simp] theorem Cpu.setSp_p (c : Cpu) (v : Byte) : (c.setSp v).p = c.p := rfl

/-! ### `Cpu.setPc` -/

@[simp] theorem Cpu.setPc_a (c : Cpu) (v : Word) : (c.setPc v).a = c.a := rfl
@[simp] theorem Cpu.setPc_x (c : Cpu) (v : Word) : (c.setPc v).x = c.x := rfl
@[simp] theorem Cpu.setPc_y (c : Cpu) (v : Word) : (c.setPc v).y = c.y := rfl
@[simp] theorem Cpu.setPc_sp (c : Cpu) (v : Word) : (c.setPc v).sp = c.sp := rfl
@[simp] theorem Cpu.setPc_pc (c : Cpu) (v : Word) : (c.setPc v).pc = v := rfl
@[simp] theorem Cpu.setPc_p (c : Cpu) (v : Word) : (c.setPc v).p = c.p := rfl

/-! ### `Cpu.setP` -/

@[simp] theorem Cpu.setP_a (c : Cpu) (v : Flags) : (c.setP v).a = c.a := rfl
@[simp] theorem Cpu.setP_x (c : Cpu) (v : Flags) : (c.setP v).x = c.x := rfl
@[simp] theorem Cpu.setP_y (c : Cpu) (v : Flags) : (c.setP v).y = c.y := rfl
@[simp] theorem Cpu.setP_sp (c : Cpu) (v : Flags) : (c.setP v).sp = c.sp := rfl
@[simp] theorem Cpu.setP_pc (c : Cpu) (v : Flags) : (c.setP v).pc = c.pc := rfl
@[simp] theorem Cpu.setP_p (c : Cpu) (v : Flags) : (c.setP v).p = v := rfl

/-! ### `State.drive` -/

@[simp] theorem State.drive_cpu (s : State) (b : Byte) : (s.drive b).cpu = s.cpu := rfl
@[simp] theorem State.drive_irq (s : State) (b : Byte) : (s.drive b).irq = s.irq := rfl
@[simp] theorem State.drive_cycles (s : State) (b : Byte) : (s.drive b).cycles = s.cycles := rfl
@[simp] theorem State.drive_jammed (s : State) (b : Byte) : (s.drive b).jammed = s.jammed := rfl
@[simp] theorem State.drive_frameReady (s : State) (b : Byte) : (s.drive b).frameReady = s.frameReady := rfl
@[simp] theorem State.drive_started (s : State) (b : Byte) : (s.drive b).started = s.started := rfl
@[simp] theorem State.drive_ppu (s : State) (b : Byte) : (s.drive b).ppu = s.ppu := rfl
@[simp] theorem State.drive_cart (s : State) (b : Byte) : (s.drive b).cart = s.cart := rfl
@[simp] theorem State.drive_io (s : State) (b : Byte) : (s.drive b).io = s.io := rfl
@[simp] theorem State.drive_openBusDecay (s : State) (b : Byte) : (s.drive b).openBusDecay = s.openBusDecay := rfl
@[simp] theorem State.drive_ram (s : State) (b : Byte) : (s.drive b).bus.ram = s.bus.ram := rfl
@[simp] theorem State.drive_latch (s : State) (b : Byte) : (s.drive b).bus.latch = b := rfl
@[simp] theorem State.drive_latchAge (s : State) (b : Byte) : (s.drive b).bus.latchAge = 0 := rfl

/-! ### The register file and the other parts are independent -/

theorem State.setIrq_setCpu (s : State) (c : Cpu) (v : Coordinator) : (s.setCpu c).setIrq v = (s.setIrq v).setCpu c := rfl
theorem State.setBus_setCpu (s : State) (c : Cpu) (v : Bus) : (s.setCpu c).setBus v = (s.setBus v).setCpu c := rfl
theorem State.setPpu_setCpu (s : State) (c : Cpu) (v : Ppu) : (s.setCpu c).setPpu v = (s.setPpu v).setCpu c := rfl
theorem State.setCart_setCpu (s : State) (c : Cpu) (v : Cart) : (s.setCpu c).setCart v = (s.setCart v).setCpu c := rfl
theorem State.setIo_setCpu (s : State) (c : Cpu) (v : IoPort) : (s.setCpu c).setIo v = (s.setIo v).setCpu c := rfl
theorem State.setCycles_setCpu (s : State) (c : Cpu) (v : Nat) : (s.setCpu c).setCycles v = (s.setCycles v).setCpu c := rfl
theorem State.setJammed_setCpu (s : State) (c : Cpu) (v : Bool) : (s.setCpu c).setJammed v = (s.setJammed v).setCpu c := rfl
theorem State.setFrameReady_setCpu (s : State) (c : Cpu) (v : Bool) : (s.setCpu c).setFrameReady v = (s.setFrameReady v).setCpu c := rfl
theorem State.drive_setCpu (s : State) (c : Cpu) (b : Byte) : (s.setCpu c).drive b = (s.drive b).setCpu c := rfl

end Sys2Proof.Machine
end

