-- ==== Sys2Proof/Laws/Ops.lean ====
section
/-! SUPPORT. One lemma for each shared operation that says what it can do: reads, writes, OAM DMA, ticks, the stack, interrupt
entry and return. A read or a tick never touches the register file or a storage cell. -/

namespace Sys2Proof.Machine

/-! ### Storage frames -/

theorem SameStorage.refl (s : State) : SameStorage s s := fun _ => rfl

theorem SameStorage.trans {s t u : State} (h : SameStorage s t) (h' : SameStorage t u) : SameStorage s u :=
  fun x => (h' x).trans (h x)

/-- States whose arrays are the same data have the same cells. -/
theorem SameStorage.of_arrays {s t : State} (hr : t.bus.ram = s.bus.ram) (ho : t.ppu.oam = s.ppu.oam)
    (hp : t.ppu.palette = s.ppu.palette) (hv : t.ppu.vram = s.ppu.vram) (hs : t.cart.sram = s.cart.sram)
    (hc : t.cart.chr = s.cart.chr) (hg : t.cart.prg = s.cart.prg) : SameStorage s t := by
  intro x
  cases x with
  | ram i => show t.bus.ram.read i = _; rw [hr]; rfl
  | oam i => show t.ppu.oam.read i = _; rw [ho]; rfl
  | palette i => show t.ppu.palette.read i = _; rw [hp]; rfl
  | vram i => show t.ppu.vram.read i = _; rw [hv]; rfl
  | sram i => show t.cart.sram.read i = _; rw [hs]; rfl
  | chr i => show t.cart.chr.read i = _; rw [hc]; rfl
  | prg i => show t.cart.prg.read i = _; rw [hg]; rfl

theorem SameStorage.but {s t : State} (h : SameStorage s t) (l : List Site) : SameStorageBut l s t := fun x _ => h x

theorem SameStorageBut.before {s t u : State} {l : List Site} (h : SameStorage s t) (h' : SameStorageBut l t u) :
    SameStorageBut l s u := fun x hx => (h' x hx).trans (h x)

theorem SameStorageBut.after {s t u : State} {l : List Site} (h : SameStorageBut l s t) (h' : SameStorage t u) :
    SameStorageBut l s u := fun x hx => (h' x).trans (h x hx)

/-- The register file holds no storage cell. -/
theorem SameStorage.setCpu (s : State) (c : Cpu) : SameStorage s (s.setCpu c) := fun x => by cases x <;> rfl

theorem State.site_setCpu (s : State) (c : Cpu) (x : Site) : (s.setCpu c).site x = s.site x := SameStorage.setCpu s c x

/-! ### Frames of the fixed parts -/

theorem SameFixed.refl (s : State) : SameFixed s s := ⟨rfl, rfl, rfl, rfl, rfl⟩

theorem SameFixed.trans {s t u : State} (h : SameFixed s t) (h' : SameFixed t u) : SameFixed s u :=
  ⟨h'.1.trans h.1, h'.2.1.trans h.2.1, h'.2.2.1.trans h.2.2.1, h'.2.2.2.1.trans h.2.2.2.1, h'.2.2.2.2.trans h.2.2.2.2⟩

/-! ### Reads -/

/-- What a read leaves alone (R91, R103): everything but the bus latch, the PPU's `v`, `w`, `readBuffer` and vblank flag, the NMI
delay and the external port. -/
structure ReadFrame (s t : State) : Prop where
  cpu        : t.cpu = s.cpu
  pending    : t.irq.pending = s.irq.pending
  stall      : t.irq.stall = s.irq.stall
  cycles     : t.cycles = s.cycles
  jammed     : t.jammed = s.jammed
  frameReady : t.frameReady = s.frameReady
  started    : t.started = s.started
  ram        : t.bus.ram = s.bus.ram
  cart       : t.cart = s.cart
  decay      : t.openBusDecay = s.openBusDecay
  ppu        : ∃ v w b f, t.ppu = { s.ppu with v := v, w := w, readBuffer := b, vblank := f }

theorem ReadFrame.refl (s : State) : ReadFrame s s := ⟨rfl, rfl, rfl, rfl, rfl, rfl, rfl, rfl, rfl, rfl, ⟨_, _, _, _, rfl⟩⟩

theorem ReadFrame.trans {s t u : State} (h : ReadFrame s t) (h' : ReadFrame t u) : ReadFrame s u := by
  obtain ⟨v, w, b, f, hp⟩ := h.ppu
  obtain ⟨v', w', b', f', hp'⟩ := h'.ppu
  exact ⟨h'.cpu.trans h.cpu, h'.pending.trans h.pending, h'.stall.trans h.stall, h'.cycles.trans h.cycles,
    h'.jammed.trans h.jammed, h'.frameReady.trans h.frameReady, h'.started.trans h.started, h'.ram.trans h.ram,
    h'.cart.trans h.cart, h'.decay.trans h.decay, ⟨v', w', b', f', by rw [hp', hp]⟩⟩

theorem ReadFrame.storage {s t : State} (h : ReadFrame s t) : SameStorage s t := by
  obtain ⟨v, w, b, f, hp⟩ := h.ppu
  exact SameStorage.of_arrays h.ram (by rw [hp]) (by rw [hp]) (by rw [hp]) (by rw [h.cart]) (by rw [h.cart]) (by rw [h.cart])

theorem ReadFrame.fixed {s t : State} (h : ReadFrame s t) : SameFixed s t :=
  ⟨by rw [h.cart], by rw [h.cart], by rw [h.cart], h.decay, h.started⟩

/-- Driving the bus is within the frame of a read. -/
theorem ReadFrame.drive (s : State) (b : Byte) : ReadFrame s (s.drive b) :=
  ⟨rfl, rfl, rfl, rfl, rfl, rfl, rfl, rfl, rfl, rfl, ⟨_, _, _, _, rfl⟩⟩

theorem Coordinator.statusRead_pending (c : Coordinator) (f : Bool) : (c.statusRead f).pending = c.pending := by
  unfold Coordinator.statusRead
  split
  · split <;> rfl
  · rfl

theorem Coordinator.statusRead_stall (c : Coordinator) (f : Bool) : (c.statusRead f).stall = c.stall := by
  unfold Coordinator.statusRead
  split
  · split <;> rfl
  · rfl

/-- What a read of a PPU register can do. -/
theorem ppuRegRead_frame (r : Nat) (s : State) : ReadFrame s (ppuRegRead r s).2 := by
  unfold ppuRegRead
  split
  · exact ⟨rfl, Coordinator.statusRead_pending _ _, Coordinator.statusRead_stall _ _, rfl, rfl, rfl, rfl, rfl, rfl, rfl,
      ⟨_, _, _, _, rfl⟩⟩
  · exact ReadFrame.drive s _
  · exact ⟨rfl, rfl, rfl, rfl, rfl, rfl, rfl, rfl, rfl, rfl, ⟨_, _, _, _, rfl⟩⟩
  · exact ReadFrame.refl s

/-- What a read can do. -/
theorem memRead_frame (addr : Word) (s : State) : ReadFrame s (memRead addr s).2 := by
  unfold memRead
  dsimp only
  split
  · exact ReadFrame.drive s _
  · split
    · exact ppuRegRead_frame _ s
    · split
      · exact ReadFrame.refl s
      · split
        · exact ⟨rfl, rfl, rfl, rfl, rfl, rfl, rfl, rfl, rfl, rfl, ⟨_, _, _, _, rfl⟩⟩
        · split
          · exact ReadFrame.drive s _
          · split
            · exact ReadFrame.refl s
            · exact ReadFrame.drive s _

@[simp] theorem memRead_cpu (addr : Word) (s : State) : (memRead addr s).2.cpu = s.cpu := (memRead_frame addr s).cpu

theorem memRead_storage (addr : Word) (s : State) : SameStorage s (memRead addr s).2 := (memRead_frame addr s).storage

/-- A read does not look at the register file. -/
theorem memRead_setCpu (addr : Word) (s : State) (c : Cpu) :
    memRead addr (s.setCpu c) = ((memRead addr s).1, (memRead addr s).2.setCpu c) := by
  unfold memRead
  dsimp only
  split
  · rfl
  · split
    · unfold ppuRegRead
      split <;> rfl
    · split
      · rfl
      · split
        · rfl
        · split
          · rfl
          · split <;> rfl

/-- A read of RAM (R93): the byte, and the latch driven with it. -/
theorem memRead_ram (addr : Word) (s : State) (h : addr.toNat < 0x2000) :
    memRead addr s = (s.bus.ram.read (addr.toNat % 0x800), s.drive (s.bus.ram.read (addr.toNat % 0x800))) := by
  unfold memRead
  simp only [h, if_true]

/-! ### Writes -/

/-- What a write leaves alone: the register file, the counters and flags of the machine, and what is fixed. -/
structure WriteFrame (s t : State) : Prop where
  cpu        : t.cpu = s.cpu
  pending    : t.irq.pending = s.irq.pending
  cycles     : t.cycles = s.cycles
  jammed     : t.jammed = s.jammed
  frameReady : t.frameReady = s.frameReady
  fixed      : SameFixed s t

theorem ReadFrame.write {s t : State} (h : ReadFrame s t) : WriteFrame s t :=
  ⟨h.cpu, h.pending, h.cycles, h.jammed, h.frameReady, h.fixed⟩

theorem WriteFrame.trans {s t u : State} (h : WriteFrame s t) (h' : WriteFrame t u) : WriteFrame s u :=
  ⟨h'.cpu.trans h.cpu, h'.pending.trans h.pending, h'.cycles.trans h.cycles, h'.jammed.trans h.jammed,
    h'.frameReady.trans h.frameReady, h.fixed.trans h'.fixed⟩

theorem Cart.SameMemories.fixed {s t : State} (h : s.cart.SameMemories t.cart) (hd : t.openBusDecay = s.openBusDecay)
    (hs : t.started = s.started) : SameFixed s t := ⟨h.2.1, h.2.2.2.1, h.2.2.2.2.1, hd, hs⟩

theorem Coordinator.scheduleNmi_pending (c : Coordinator) : c.scheduleNmi.pending = c.pending := by
  unfold Coordinator.scheduleNmi
  split <;> rfl

theorem Coordinator.uncancel_pending (c : Coordinator) : c.uncancel.pending = c.pending := by
  unfold Coordinator.uncancel
  split <;> rfl

theorem Coordinator.nmiEnableRisingEdge_pending (c : Coordinator) (f : Bool) : (c.nmiEnableRisingEdge f).pending = c.pending := by
  unfold Coordinator.nmiEnableRisingEdge
  split
  · rw [Coordinator.scheduleNmi_pending, Coordinator.uncancel_pending]
  · exact Coordinator.uncancel_pending c

/-- What a write to a PPU register can do. -/
theorem ppuRegWrite_frame (r : Nat) (d : Byte) (s : State) : WriteFrame s (ppuRegWrite r d s) := by
  unfold ppuRegWrite
  split
  · unfold ppuCtrlWrite
    dsimp only
    split
    · exact ⟨rfl, Coordinator.nmiEnableRisingEdge_pending _ _, rfl, rfl, rfl, SameFixed.refl s⟩
    · exact ⟨rfl, rfl, rfl, rfl, rfl, SameFixed.refl s⟩
  · exact ⟨rfl, rfl, rfl, rfl, rfl, SameFixed.refl s⟩
  · exact ⟨rfl, rfl, rfl, rfl, rfl, SameFixed.refl s⟩
  · exact ⟨rfl, rfl, rfl, rfl, rfl, SameFixed.refl s⟩
  · exact ⟨rfl, rfl, rfl, rfl, rfl, SameFixed.refl s⟩
  · exact ⟨rfl, rfl, rfl, rfl, rfl, SameFixed.refl s⟩
  · refine ⟨rfl, rfl, rfl, rfl, rfl, ?_⟩
    unfold ppuDataWrite Cart.ppuBusWrite Cart.ppuWrite
    dsimp only
    split
    · split <;> exact ⟨rfl, rfl, rfl, rfl, rfl⟩
    · exact ⟨rfl, rfl, rfl, rfl, rfl⟩
  · exact (ReadFrame.refl s).write

/-- The copy loop of OAM DMA changes OAM, `oamAddr` and what its reads change (R112). -/
theorem dmaCopy_frame (page : Byte) (is : List Nat) : ∀ s : State, WriteFrame s (dmaCopy page is s) := by
  induction is with
  | nil => intro s; exact (ReadFrame.refl s).write
  | cons i is ih =>
    intro s
    have h := (memRead_frame (word page (BitVec.ofNat 8 i)) s).write
    unfold dmaCopy
    dsimp only
    refine WriteFrame.trans ?_ (ih _)
    exact ⟨h.cpu, h.pending, h.cycles, h.jammed, h.frameReady, h.fixed⟩

/-- OAM DMA changes no storage cell outside OAM (R112). -/
theorem dmaCopy_storage (page : Byte) (is : List Nat) : ∀ (s : State) (x : Site), (∀ i, x ≠ .oam i) →
    (dmaCopy page is s).site x = s.site x := by
  induction is with
  | nil => intros; rfl
  | cons i is ih =>
    intro s x hx
    unfold dmaCopy
    dsimp only
    rw [ih _ x hx]
    have h := memRead_storage (word page (BitVec.ofNat 8 i)) s x
    rw [← h]
    cases x with
    | oam i => exact absurd rfl (hx i)
    | ram i => rfl
    | palette i => rfl
    | vram i => rfl
    | sram i => rfl
    | chr i => rfl
    | prg i => rfl

/-- OAM DMA keeps the cells of OAM beyond 0xFF. -/
theorem dmaCopy_oam (page : Byte) (is : List Nat) : ∀ (s : State) (i : Nat), 256 ≤ i →
    (dmaCopy page is s).site (.oam i) = s.site (.oam i) := by
  induction is with
  | nil => intros; rfl
  | cons j is ih =>
    intro s i hi
    unfold dmaCopy
    dsimp only
    rw [ih _ i hi, ← memRead_storage (word page (BitVec.ofNat 8 j)) s (.oam i)]
    refine Memory.read_write_other _ _ _ _ ?_
    have := ((memRead (word page (BitVec.ofNat 8 j)) s).2.ppu.oamAddr).isLt
    omega

/-- A write does not look at the register file: the copy loop. -/
theorem dmaCopy_setCpu (page : Byte) (is : List Nat) : ∀ (s : State) (c : Cpu),
    dmaCopy page is (s.setCpu c) = (dmaCopy page is s).setCpu c := by
  induction is with
  | nil => intros; rfl
  | cons i is ih =>
    intro s c
    unfold dmaCopy
    dsimp only
    rw [memRead_setCpu]
    exact ih ((memRead (word page (BitVec.ofNat 8 i)) s).2.setPpu
      ((memRead (word page (BitVec.ofNat 8 i)) s).2.ppu.oamPush (memRead (word page (BitVec.ofNat 8 i)) s).1)) c

/-- What OAM DMA can do (R112). -/
theorem oamDma_frame (page : Byte) (s : State) : WriteFrame s (oamDma page s) := by
  have h := dmaCopy_frame page (List.range 256) s
  unfold oamDma
  dsimp only
  generalize dmaCopy page (List.range 256) s = t at h ⊢
  exact ⟨h.cpu, h.pending, h.cycles, h.jammed, h.frameReady, h.fixed⟩

/-- OAM DMA changes OAM and no other storage (R112). -/
theorem oamDma_storage (page : Byte) (s : State) : SameStorageBut ((List.range 256).map .oam) s (oamDma page s) := by
  intro x hx
  have h : (dmaCopy page (List.range 256) s).site x = s.site x := by
    cases x with
    | oam i =>
      refine dmaCopy_oam page _ _ i ?_
      rcases Nat.lt_or_ge i 256 with hlt | hge
      · exact absurd (List.mem_map.mpr ⟨i, List.mem_range.mpr hlt, rfl⟩) hx
      · exact hge
    | ram i => exact dmaCopy_storage page _ _ _ (fun _ h => by cases h)
    | palette i => exact dmaCopy_storage page _ _ _ (fun _ h => by cases h)
    | vram i => exact dmaCopy_storage page _ _ _ (fun _ h => by cases h)
    | sram i => exact dmaCopy_storage page _ _ _ (fun _ h => by cases h)
    | chr i => exact dmaCopy_storage page _ _ _ (fun _ h => by cases h)
    | prg i => exact dmaCopy_storage page _ _ _ (fun _ h => by cases h)
  refine Eq.trans ?_ h
  unfold oamDma
  dsimp only
  generalize dmaCopy page (List.range 256) s = t
  cases x <;> rfl

/-- What a write can do. -/
theorem memWrite_frame (addr : Word) (v : Byte) (s : State) : WriteFrame s (memWrite addr v s) := by
  have hd : WriteFrame s (s.drive v) := (ReadFrame.drive s v).write
  unfold memWrite
  dsimp only
  split
  · exact ⟨rfl, rfl, rfl, rfl, rfl, SameFixed.refl s⟩
  · split
    · exact hd.trans (ppuRegWrite_frame _ v _)
    · split
      · exact hd.trans (oamDma_frame v _)
      · split
        · exact ⟨rfl, rfl, rfl, rfl, rfl, SameFixed.refl s⟩
        · split
          · exact hd
          · refine ⟨rfl, rfl, rfl, rfl, rfl, ?_⟩
            show SameFixed s ((s.drive v).setCart (s.cart.cpuWrite addr.toNat v))
            unfold Cart.cpuWrite
            split
            · exact SameFixed.refl s
            · split
              · exact SameFixed.refl s
              · exact Cart.SameMemories.fixed (Cart.registerWrite_memories s.cart addr.toNat v) rfl rfl

@[simp] theorem memWrite_cpu (addr : Word) (v : Byte) (s : State) : (memWrite addr v s).cpu = s.cpu := (memWrite_frame addr v s).cpu

/-- A write does not look at the register file. -/
theorem memWrite_setCpu (addr : Word) (v : Byte) (s : State) (c : Cpu) :
    memWrite addr v (s.setCpu c) = (memWrite addr v s).setCpu c := by
  unfold memWrite
  dsimp only
  split
  · rfl
  · split
    · unfold ppuRegWrite
      split
      · unfold ppuCtrlWrite
        dsimp only
        split
        · rename_i h1
          split
          · rfl
          · rename_i h2
            exact absurd h1 h2
        · rename_i h1
          split
          · rename_i h2
            exact absurd h2 h1
          · rfl
      · rfl
      · rfl
      · rfl
      · rfl
      · rfl
      · rfl
      · rfl
    · split
      · unfold oamDma
        dsimp only
        rw [State.drive_setCpu, dmaCopy_setCpu]
        rfl
      · split
        · rfl
        · split <;> rfl

/-- A write to RAM (R93): one byte of RAM and the latch. -/
theorem memWrite_ram (addr : Word) (v : Byte) (s : State) (h : addr.toNat < 0x2000) :
    memWrite addr v s =
      (s.drive v).setBus { (s.drive v).bus with ram := s.bus.ram.write (addr.toNat % 0x800) v } := by
  unfold memWrite
  simp only [h, if_true]
  rfl

/-- A write through the PPU data port changes the one cell it reaches. -/
theorem ppuDataWrite_storage (d : Byte) (s : State) : SameStorageBut (dataPortSites s) s (ppuDataWrite d s) := by
  intro x hx
  unfold dataPortSites at hx
  dsimp only at hx
  have hm : s.ppu.dataAddr % 0x4000 = s.ppu.dataAddr := by
    unfold Ppu.dataAddr
    omega
  unfold ppuDataWrite Ppu.write Cart.ppuBusWrite
  dsimp only
  rw [hm]
  by_cases h1 : s.ppu.dataAddr < 0x2000
  · simp only [h1, if_true] at hx ⊢
    unfold Cart.ppuWrite
    by_cases h2 : s.cart.chrIsRam = true
    · simp only [h2, if_true, List.mem_singleton] at hx ⊢
      cases x with
      | chr i => exact Memory.read_write_other _ _ _ _ fun he => hx (by rw [he])
      | ram i => rfl
      | oam i => rfl
      | palette i => rfl
      | vram i => rfl
      | sram i => rfl
      | prg i => rfl
    · simp only [h2]
      cases x <;> rfl
  · simp only [h1, if_false] at hx ⊢
    by_cases h2 : s.ppu.dataAddr < 0x3F00
    · simp only [h2, if_true, List.mem_singleton] at hx ⊢
      cases x with
      | vram i => exact Memory.read_write_other _ _ _ _ fun he => hx (by rw [he])
      | ram i => rfl
      | oam i => rfl
      | palette i => rfl
      | chr i => rfl
      | sram i => rfl
      | prg i => rfl
    · simp only [h2, if_false, List.mem_singleton] at hx ⊢
      cases x with
      | palette i => exact Memory.read_write_other _ _ _ _ fun he => hx (by rw [he])
      | ram i => rfl
      | oam i => rfl
      | vram i => rfl
      | chr i => rfl
      | sram i => rfl
      | prg i => rfl

/-- A write to a PPU register changes the cells it reaches: OAM for register 4, one cell for register 7, none for the others. -/
theorem ppuRegWrite_storage (r : Nat) (d : Byte) (s : State) :
    SameStorageBut (if r = 4 then [.oam s.ppu.oamAddr.toNat] else if r = 7 then dataPortSites s else []) s (ppuRegWrite r d s) := by
  intro x hx
  match r, hx with
  | 0, _ =>
    show (ppuCtrlWrite d s).site x = _
    unfold ppuCtrlWrite
    dsimp only
    split <;> cases x <;> rfl
  | 1, _ => cases x <;> rfl
  | 2, _ => rfl
  | 3, _ => cases x <;> rfl
  | 4, hx =>
    simp only [if_true, List.mem_singleton] at hx
    cases x with
    | oam i => exact Memory.read_write_other _ _ _ _ fun he => hx (by rw [he])
    | ram i => rfl
    | palette i => rfl
    | vram i => rfl
    | chr i => rfl
    | sram i => rfl
    | prg i => rfl
  | 5, _ =>
    show (s.setPpu (s.ppu.writeScroll d)).site x = _
    unfold Ppu.writeScroll
    split <;> cases x <;> rfl
  | 6, _ =>
    show (s.setPpu (s.ppu.writeAddr d)).site x = _
    unfold Ppu.writeAddr
    split <;> cases x <;> rfl
  | 7, hx => exact ppuDataWrite_storage d s x hx
  | n + 8, _ => rfl

/-- A write changes the cells `storedSites` lists and no other. -/
theorem memWrite_storage (addr : Word) (v : Byte) (s : State) : SameStorageBut (storedSites addr s) s (memWrite addr v s) := by
  have hd : SameStorage s (s.drive v) := (ReadFrame.drive s v).storage
  intro x hx
  unfold storedSites at hx
  unfold memWrite
  dsimp only at hx ⊢
  by_cases h1 : addr.toNat < 0x2000
  · simp only [h1, if_true, List.mem_singleton] at hx ⊢
    cases x with
    | ram i => exact Memory.read_write_other _ _ _ _ fun he => hx (by rw [he])
    | oam i => rfl
    | palette i => rfl
    | vram i => rfl
    | chr i => rfl
    | sram i => rfl
    | prg i => rfl
  · simp only [h1, if_false] at hx ⊢
    by_cases h2 : addr.toNat < 0x4000
    · simp only [h2, if_true] at hx ⊢
      exact (ppuRegWrite_storage _ v (s.drive v) x hx).trans (hd x)
    · simp only [h2, if_false] at hx ⊢
      by_cases h3 : addr.toNat = 0x4014
      · simp only [h3, if_true] at hx ⊢
        exact (oamDma_storage v (s.drive v) x hx).trans (hd x)
      · simp only [h3, if_false] at hx ⊢
        by_cases h4 : addr.toNat < 0x4018
        · simp only [h4, if_true]
          exact hd x
        · simp only [h4, if_false]
          by_cases h5 : addr.toNat < 0x4020
          · simp only [h5, if_true]
            exact hd x
          · simp only [h5, if_false]
            unfold Cart.cpuWrite
            by_cases h6 : addr.toNat < 0x6000
            · simp only [h6, if_true]
              exact hd x
            · simp only [h6, if_false] at hx ⊢
              by_cases h7 : addr.toNat < 0x8000
              · simp only [h7, if_true, List.mem_singleton] at hx ⊢
                cases x with
                | sram i => exact Memory.read_write_other _ _ _ _ fun he => hx (by rw [he])
                | ram i => rfl
                | oam i => rfl
                | palette i => rfl
                | vram i => rfl
                | chr i => rfl
                | prg i => rfl
              · simp only [h7, if_false]
                have hm := Cart.registerWrite_memories s.cart addr.toNat v
                exact SameStorage.of_arrays (s := s) (t := (s.drive v).setCart (s.cart.registerWrite addr.toNat v))
                  rfl rfl rfl rfl hm.2.2.2.2.2 hm.2.2.1 hm.1 x

/-! ### Ticks -/

/-- What a tick leaves alone (R110, R111): the register file, every storage cell, the registers of the PPU port, the external
port, the stall, the bus latch, and what is fixed. -/
structure TickFrame (s t : State) : Prop where
  cpu       : t.cpu = s.cpu
  stall     : t.irq.stall = s.irq.stall
  jammed    : t.jammed = s.jammed
  ram       : t.bus.ram = s.bus.ram
  latch     : t.bus.latch = s.bus.latch
  io        : t.io = s.io
  held      : s.ppu.SameHeld t.ppu
  memories  : s.cart.SameMemories t.cart
  mirroring : t.cart.mirroring = s.cart.mirroring
  decay     : t.openBusDecay = s.openBusDecay
  started   : t.started = s.started

theorem TickFrame.refl (s : State) : TickFrame s s :=
  ⟨rfl, rfl, rfl, rfl, rfl, rfl, Ppu.SameHeld.rfl, Cart.SameMemories.rfl _, rfl, rfl, rfl⟩

theorem TickFrame.trans {s t u : State} (h : TickFrame s t) (h' : TickFrame t u) : TickFrame s u :=
  ⟨h'.cpu.trans h.cpu, h'.stall.trans h.stall, h'.jammed.trans h.jammed, h'.ram.trans h.ram, h'.latch.trans h.latch,
    h'.io.trans h.io, h.held.trans h'.held, h.memories.trans h'.memories, h'.mirroring.trans h.mirroring,
    h'.decay.trans h.decay, h'.started.trans h.started⟩

theorem TickFrame.storage {s t : State} (h : TickFrame s t) : SameStorage s t :=
  SameStorage.of_arrays h.ram h.held.oam h.held.palette h.held.vram h.memories.2.2.2.2.2 h.memories.2.2.1 h.memories.1

theorem TickFrame.port {s t : State} (h : TickFrame s t) : SamePort s t :=
  ⟨h.held.ctrl, h.held.mask, h.held.t, h.held.fineX, h.held.w, h.held.readBuffer, h.held.oamAddr⟩

theorem TickFrame.fixed {s t : State} (h : TickFrame s t) : SameFixed s t :=
  ⟨h.memories.2.1, h.memories.2.2.2.1, h.memories.2.2.2.2.1, h.decay, h.started⟩

theorem Coordinator.advanceNmiDelay_stall (c : Coordinator) : c.advanceNmiDelay.stall = c.stall := by
  unfold Coordinator.advanceNmiDelay
  split
  · split <;> rfl
  · rfl

theorem Coordinator.triggerIrq_stall (c : Coordinator) : c.triggerIrq.stall = c.stall := by
  unfold Coordinator.triggerIrq
  split <;> rfl

theorem nmiPart_stall (sl c : Nat) (e : Bool) (q : Coordinator) : (nmiPart sl c e q).stall = q.stall := by
  unfold nmiPart
  split
  · split
    · unfold Coordinator.scheduleNmi
      split <;> rfl
    · rfl
  · split
    · unfold Coordinator.uncancel
      split <;> rfl
    · rfl

/-- What one PPU cycle can do. -/
theorem ppuDot_frame (s : State) : TickFrame s (ppuDot s) := by
  unfold ppuDot
  dsimp only
  split
  · exact ⟨rfl, nmiPart_stall _ _ _ _, rfl, rfl, rfl, rfl, Ppu.dot_held _ _, Cart.scanlineClock_memories _,
      Cart.scanlineClock_mirroring _, rfl, rfl⟩
  · exact ⟨rfl, nmiPart_stall _ _ _ _, rfl, rfl, rfl, rfl, Ppu.dot_held _ _, Cart.SameMemories.rfl _, rfl, rfl, rfl⟩

/-- What one CPU cycle can do (R111). -/
theorem tickOne_frame (s : State) : TickFrame s (tickOne s) := by
  have h0 : TickFrame s (tickCounters s) :=
    ⟨rfl, Coordinator.advanceNmiDelay_stall _, rfl, rfl, rfl, rfl, Ppu.SameHeld.rfl, Cart.SameMemories.rfl _, rfl, rfl, rfl⟩
  have h4 : ∀ t : State, TickFrame t (tickIrqLine t) := by
    intro t
    unfold tickIrqLine
    split
    · exact ⟨rfl, Coordinator.triggerIrq_stall _, rfl, rfl, rfl, rfl, Ppu.SameHeld.rfl, Cart.SameMemories.rfl _, rfl, rfl, rfl⟩
    · exact TickFrame.refl t
  unfold tickOne
  exact (((h0.trans (ppuDot_frame _)).trans (ppuDot_frame _)).trans (ppuDot_frame _)).trans (h4 _)

/-- What `n` CPU cycles can do (R110). -/
theorem tick_frame (n : Nat) : ∀ s : State, TickFrame s (tick n s) := by
  induction n with
  | zero => exact TickFrame.refl
  | succ n ih => exact fun s => (tickOne_frame s).trans (ih _)

@[simp] theorem tick_cpu (n : Nat) (s : State) : (tick n s).cpu = s.cpu := (tick_frame n s).cpu

theorem tick_storage (n : Nat) (s : State) : SameStorage s (tick n s) := (tick_frame n s).storage

/-- One PPU cycle does not look at the register file. -/
theorem ppuDot_setCpu (s : State) (c : Cpu) : ppuDot (s.setCpu c) = (ppuDot s).setCpu c := by
  unfold ppuDot
  dsimp only
  split
  · rename_i h
    split
    · rfl
    · rename_i h'
      exact absurd h h'
  · rename_i h
    split
    · rename_i h'
      exact absurd h' h
    · rfl

/-- One CPU cycle does not look at the register file. -/
theorem tickOne_setCpu (s : State) (c : Cpu) : tickOne (s.setCpu c) = (tickOne s).setCpu c := by
  have h0 : tickCounters (s.setCpu c) = (tickCounters s).setCpu c := rfl
  have h4 : ∀ t : State, tickIrqLine (t.setCpu c) = (tickIrqLine t).setCpu c := by
    intro t
    unfold tickIrqLine
    split
    · rename_i h
      split
      · rfl
      · rename_i h'
        exact absurd h h'
    · rename_i h
      split
      · rename_i h'
        exact absurd h' h
      · rfl
  unfold tickOne
  rw [h0, ppuDot_setCpu, ppuDot_setCpu, ppuDot_setCpu, h4]

/-- Ticks do not look at the register file. -/
theorem tick_setCpu (n : Nat) : ∀ (s : State) (c : Cpu), tick n (s.setCpu c) = (tick n s).setCpu c := by
  induction n with
  | zero => intros; rfl
  | succ n ih =>
    intro s c
    show tick n (tickOne (s.setCpu c)) = _
    rw [tickOne_setCpu, ih]
    rfl

theorem ppuDot_cycles (s : State) : (ppuDot s).cycles = s.cycles := by
  unfold ppuDot
  dsimp only
  split <;> rfl

theorem ppuDot_latchAge (s : State) : (ppuDot s).bus = s.bus := by
  unfold ppuDot
  dsimp only
  split <;> rfl

/-- One CPU cycle counts one. -/
theorem tickOne_cycles (s : State) : (tickOne s).cycles = s.cycles + 1 := by
  have h4 : ∀ t : State, (tickIrqLine t).cycles = t.cycles := by
    intro t
    unfold tickIrqLine
    split <;> rfl
  unfold tickOne
  rw [h4, ppuDot_cycles, ppuDot_cycles, ppuDot_cycles]
  rfl

/-- `n` CPU cycles count `n` (R44, R110). -/
theorem tick_cycles (n : Nat) : ∀ s : State, (tick n s).cycles = s.cycles + n := by
  induction n with
  | zero => intro s; rfl
  | succ n ih =>
    intro s
    show (tick n (tickOne s)).cycles = _
    rw [ih, tickOne_cycles]
    omega

/-- Ticks add up (R110). -/
theorem tick_add (m n : Nat) : ∀ s : State, tick (m + n) s = tick n (tick m s) := by
  induction m with
  | zero => intro s; rw [Nat.zero_add]; rfl
  | succ m ih =>
    intro s
    rw [Nat.succ_add]
    exact ih (tickOne s)

end Sys2Proof.Machine
end

