-- ==== Sys2Proof/Laws/Invariant.lean ====
section
/-! SUPPORT. Every shared operation keeps the invariant of the state. -/

namespace Sys2Proof.Machine

/-- The invariant does not look at the register file. -/
theorem State.Inv.setCpu {s : State} (h : s.Inv) (c : Cpu) : (s.setCpu c).Inv := ⟨h.ram, h.nmiDelay, h.ppu, h.cart, h.decay⟩

theorem State.Inv.setFrameReady {s : State} (h : s.Inv) (b : Bool) : (s.setFrameReady b).Inv := ⟨h.ram, h.nmiDelay, h.ppu, h.cart, h.decay⟩

theorem State.Inv.setJammed {s : State} (h : s.Inv) (b : Bool) : (s.setJammed b).Inv := ⟨h.ram, h.nmiDelay, h.ppu, h.cart, h.decay⟩

theorem State.Inv.drive {s : State} (h : s.Inv) (b : Byte) : (s.drive b).Inv := ⟨h.ram, h.nmiDelay, h.ppu, h.cart, h.decay⟩

theorem State.Inv.setIo {s : State} (h : s.Inv) (p : IoPort) : (s.setIo p).Inv := ⟨h.ram, h.nmiDelay, h.ppu, h.cart, h.decay⟩

theorem State.Inv.setPpu {s : State} (h : s.Inv) {p : Ppu} (hp : PpuInv p) : (s.setPpu p).Inv := ⟨h.ram, h.nmiDelay, hp, h.cart, h.decay⟩

theorem State.Inv.setCart {s : State} (h : s.Inv) {c : Cart} (hc : CartInv c) : (s.setCart c).Inv := ⟨h.ram, h.nmiDelay, h.ppu, hc, h.decay⟩

theorem State.Inv.setIrq {s : State} (h : s.Inv) {q : Coordinator} (hq : NmiDelayInv q.nmiDelay) : (s.setIrq q).Inv :=
  ⟨h.ram, hq, h.ppu, h.cart, h.decay⟩

/-! ### The interrupt coordinator -/

theorem Coordinator.statusRead_inv (c : Coordinator) (f : Bool) (h : NmiDelayInv c.nmiDelay) :
    NmiDelayInv (c.statusRead f).nmiDelay := by
  unfold Coordinator.statusRead
  split
  · split
    · trivial
    · exact h
  · exact h

theorem Coordinator.scheduleNmi_inv (c : Coordinator) (h : NmiDelayInv c.nmiDelay) : NmiDelayInv c.scheduleNmi.nmiDelay := by
  unfold Coordinator.scheduleNmi
  split
  · exact h
  · exact Nat.le_refl 14

theorem Coordinator.uncancel_inv (c : Coordinator) (h : NmiDelayInv c.nmiDelay) : NmiDelayInv c.uncancel.nmiDelay := by
  unfold Coordinator.uncancel
  split
  · trivial
  · exact h

theorem Coordinator.nmiEnableRisingEdge_inv (c : Coordinator) (f : Bool) (h : NmiDelayInv c.nmiDelay) :
    NmiDelayInv (c.nmiEnableRisingEdge f).nmiDelay := by
  unfold Coordinator.nmiEnableRisingEdge
  split
  · exact Coordinator.scheduleNmi_inv _ (Coordinator.uncancel_inv c h)
  · exact Coordinator.uncancel_inv c h

theorem Coordinator.advanceNmiDelay_inv (c : Coordinator) (h : NmiDelayInv c.nmiDelay) :
    NmiDelayInv c.advanceNmiDelay.nmiDelay := by
  unfold Coordinator.advanceNmiDelay
  split
  · rename_i n hn
    rw [hn] at h
    split
    · trivial
    · exact Nat.le_trans (Nat.sub_le n 1) h
  · exact h

theorem Coordinator.triggerIrq_inv (c : Coordinator) (h : NmiDelayInv c.nmiDelay) : NmiDelayInv c.triggerIrq.nmiDelay := by
  unfold Coordinator.triggerIrq
  split <;> exact h

theorem nmiPart_inv (sl c : Nat) (e : Bool) (q : Coordinator) (h : NmiDelayInv q.nmiDelay) : NmiDelayInv (nmiPart sl c e q).nmiDelay := by
  unfold nmiPart
  split
  · split
    · exact Coordinator.scheduleNmi_inv q h
    · exact h
  · split
    · exact Coordinator.uncancel_inv q h
    · exact h

/-! ### Reads and writes -/

theorem State.Inv.ppuRegRead {s : State} (h : s.Inv) (r : Nat) : (ppuRegRead r s).2.Inv := by
  unfold Machine.ppuRegRead
  split
  · exact ⟨h.ram, Coordinator.statusRead_inv _ _ h.nmiDelay, h.ppu.registers rfl rfl rfl ⟨rfl, rfl⟩ rfl rfl rfl rfl, h.cart, h.decay⟩
  · exact h.drive _
  · exact ⟨h.ram, h.nmiDelay, h.ppu.registers rfl rfl rfl ⟨rfl, rfl⟩ rfl rfl rfl rfl, h.cart, h.decay⟩
  · exact h

/-- A read keeps the invariant. -/
theorem State.Inv.memRead {s : State} (h : s.Inv) (addr : Word) : (memRead addr s).2.Inv := by
  unfold Machine.memRead
  dsimp only
  split
  · exact h.drive _
  · split
    · exact h.ppuRegRead _
    · split
      · exact h
      · split
        · exact (h.setIo _).drive _
        · split
          · exact h.drive _
          · split
            · exact h
            · exact h.drive _

theorem State.Inv.ppuRegWrite {s : State} (h : s.Inv) (r : Nat) (d : Byte) : (ppuRegWrite r d s).Inv := by
  unfold Machine.ppuRegWrite
  split
  · have hp : PpuInv (s.ppu.writeCtrl d) := h.ppu.registers rfl rfl rfl ⟨rfl, rfl⟩ rfl rfl rfl rfl
    unfold ppuCtrlWrite
    dsimp only
    split
    · exact ⟨h.ram, Coordinator.nmiEnableRisingEdge_inv _ _ h.nmiDelay, hp, h.cart, h.decay⟩
    · exact h.setPpu hp
  · exact h.setPpu (h.ppu.registers rfl rfl rfl ⟨rfl, rfl⟩ rfl rfl rfl rfl)
  · exact h.setPpu (h.ppu.registers rfl rfl rfl ⟨rfl, rfl⟩ rfl rfl rfl rfl)
  · exact h.setPpu (h.ppu.oamPush d)
  · refine h.setPpu ?_
    unfold Ppu.writeScroll
    split <;> exact h.ppu.registers rfl rfl rfl ⟨rfl, rfl⟩ rfl rfl rfl rfl
  · refine h.setPpu ?_
    unfold Ppu.writeAddr
    split <;> exact h.ppu.registers rfl rfl rfl ⟨rfl, rfl⟩ rfl rfl rfl rfl
  · exact (h.setPpu ((h.ppu.write s.cart s.ppu.dataAddr d).registers (q := (s.ppu.write s.cart s.ppu.dataAddr d).incrementV)
      rfl rfl rfl ⟨rfl, rfl⟩ rfl rfl rfl rfl)).setCart (h.cart.ppuBusWrite _ d)
  · exact h

theorem State.Inv.dmaCopy (page : Byte) (is : List Nat) : ∀ {s : State}, s.Inv → (dmaCopy page is s).Inv := by
  induction is with
  | nil => exact fun h => h
  | cons i is ih =>
    intro s h
    have h' := h.memRead (word page (BitVec.ofNat 8 i))
    exact ih (h'.setPpu (h'.ppu.oamPush _))

theorem State.Inv.oamDma {s : State} (h : s.Inv) (page : Byte) : (oamDma page s).Inv := by
  have h' := State.Inv.dmaCopy page (List.range 256) h
  unfold Machine.oamDma
  dsimp only
  generalize Machine.dmaCopy page (List.range 256) s = t at h' ⊢
  exact h'.setIrq h'.nmiDelay

/-- A write keeps the invariant. -/
theorem State.Inv.memWrite {s : State} (h : s.Inv) (addr : Word) (v : Byte) : (memWrite addr v s).Inv := by
  unfold Machine.memWrite
  dsimp only
  split
  · exact ⟨Memory.ok_write 2048 _ _ v h.ram (Nat.mod_lt _ (by decide)), h.nmiDelay, h.ppu, h.cart, h.decay⟩
  · split
    · exact (h.drive v).ppuRegWrite _ v
    · split
      · exact (h.drive v).oamDma v
      · split
        · exact (h.drive v).setIo _
        · split
          · exact h.drive v
          · exact (h.drive v).setCart (h.cart.cpuWrite _ v)

/-! ### Ticks -/

theorem State.Inv.ppuDot {s : State} (h : s.Inv) : (ppuDot s).Inv := by
  have hq := nmiPart_inv s.ppu.scanline s.ppu.cycle s.ppu.ctrlNmiEnable s.irq h.nmiDelay
  unfold Machine.ppuDot
  dsimp only
  split
  · exact ⟨h.ram, hq, h.ppu.dot s.cart, h.cart.scanlineClock, h.decay⟩
  · exact ⟨h.ram, hq, h.ppu.dot s.cart, h.cart, h.decay⟩

/-- One CPU cycle keeps the invariant. -/
theorem State.Inv.tickOne {s : State} (h : s.Inv) : (tickOne s).Inv := by
  have h0 : (tickCounters s).Inv := ⟨h.ram, Coordinator.advanceNmiDelay_inv _ h.nmiDelay, h.ppu, h.cart, h.decay⟩
  have h4 : ∀ {t : State}, t.Inv → (tickIrqLine t).Inv := by
    intro t ht
    unfold tickIrqLine
    split
    · exact ht.setIrq (Coordinator.triggerIrq_inv _ ht.nmiDelay)
    · exact ht
  exact h4 h0.ppuDot.ppuDot.ppuDot

/-- Ticks keep the invariant. -/
theorem State.Inv.tick (n : Nat) : ∀ {s : State}, s.Inv → (tick n s).Inv := by
  induction n with
  | zero => exact fun h => h
  | succ n ih => exact fun h => ih h.tickOne

/-! ### Larger operations -/

theorem State.Inv.memReadWord {s : State} (h : s.Inv) (addr : Word) : (memReadWord addr s).2.Inv := (h.memRead _).memRead _

theorem State.Inv.push {s : State} (h : s.Inv) (b : Byte) : (push b s).Inv := (h.memWrite _ b).setCpu _

theorem State.Inv.pop {s : State} (h : s.Inv) : (pop s).2.Inv := (h.setCpu _).memRead _

theorem State.Inv.pushWord {s : State} (h : s.Inv) (w : Word) : (pushWord w s).Inv := (h.push _).push _

theorem State.Inv.popWord {s : State} (h : s.Inv) : (popWord s).2.Inv := h.pop.pop

/-- Taking an interrupt keeps the invariant. -/
theorem State.Inv.enterInterrupt {s : State} (h : s.Inv) (ret : Word) (brk : Bool) (vector : Word) :
    (enterInterrupt ret brk vector s).Inv := (((h.pushWord ret).push _).memReadWord vector).setCpu _

/-- Returning from an interrupt keeps the invariant. -/
theorem State.Inv.returnFromInterrupt {s : State} (h : s.Inv) : (returnFromInterrupt s).Inv := ((h.pop.setCpu _).popWord).setCpu _

theorem State.Inv.zeropagePointer {s : State} (h : s.Inv) (p : Byte) : (zeropagePointer p s).2.Inv := (h.memRead _).memRead _

theorem State.Inv.indexNormal {s : State} (h : s.Inv) (base : Word) (idx : Byte) : (indexNormal base idx s).2.Inv := by
  unfold Machine.indexNormal dummyRead
  dsimp only
  split
  · exact h.memRead _
  · exact h

theorem State.Inv.indexForced {s : State} (h : s.Inv) (base : Word) (idx : Byte) : (indexForced base idx s).2.Inv := h.memRead _

theorem State.Inv.indirectYNormal {s : State} (h : s.Inv) (d : Byte) : (indirectYNormal d s).2.Inv :=
  (h.zeropagePointer d).indexNormal _ _

theorem State.Inv.indirectYForced {s : State} (h : s.Inv) (d : Byte) : (indirectYForced d s).2.Inv :=
  (h.zeropagePointer d).indexForced _ _

theorem State.Inv.readAt {s : State} (h : s.Inv) (ea : Word) (f : Cpu → Byte → Cpu) : (readAt ea f s).Inv := (h.memRead ea).setCpu _

theorem State.Inv.modifyAt {s : State} (h : s.Inv) (ea : Word) (f : Cpu → Byte → Byte × Cpu) : (modifyAt ea f s).Inv :=
  ((h.memRead ea).memWrite ea _).setCpu _

/-- An outcome that, if it is a next state, is one with the property `P`. -/
def Ensures (P : State → Prop) (r : Result) : Prop := ∀ t, r = .next t → P t

theorem Ensures.next {P : State → Prop} {s : State} (h : P s) : Ensures P (.next s) := by
  intro t ht
  cases ht
  exact h

/-- The end of an instruction keeps the invariant. -/
theorem State.Inv.finish {s : State} (h : s.Inv) (len cycles : Nat) : Ensures State.Inv (finish len cycles s) :=
  Ensures.next (State.Inv.tick cycles (h.setCpu _))

theorem State.Inv.finishJump {s : State} (h : s.Inv) (cycles : Nat) : Ensures State.Inv (finishJump cycles s) :=
  Ensures.next (State.Inv.tick cycles h)

theorem State.Inv.readInstr {s : State} (h : s.Inv) (len base : Nat) (f : Cpu → Byte → Cpu) (ea : Word) :
    Ensures State.Inv (readInstr len base f ea s) := (h.readAt ea f).finish len base

theorem State.Inv.readIndexed {r : Resolved × State} (h : r.2.Inv) (len base : Nat) (f : Cpu → Byte → Cpu) :
    Ensures State.Inv (readIndexed len base f r) := (h.readAt r.1.ea f).finish len _

theorem State.Inv.writeInstr {s : State} (h : s.Inv) (len base : Nat) (ea : Word) (v : Byte) :
    Ensures State.Inv (writeInstr len base ea v s) := (h.memWrite ea v).finish len base

theorem State.Inv.modifyInstr {s : State} (h : s.Inv) (len base : Nat) (f : Cpu → Byte → Byte × Cpu) (ea : Word) :
    Ensures State.Inv (modifyInstr len base f ea s) := (h.modifyAt ea f).finish len base

theorem State.Inv.immediate {s : State} (h : s.Inv) (base : Nat) (f : Cpu → Byte → Cpu) (d : Byte) :
    Ensures State.Inv (immediate base f d s) := (h.setCpu _).finish 2 base

theorem State.Inv.impliedInstr {s : State} (h : s.Inv) (f : Cpu → Cpu) : Ensures State.Inv (impliedInstr f s) := (h.setCpu _).finish 1 2

theorem State.Inv.modifyAccumulator {s : State} (h : s.Inv) (f : Cpu → Byte → Byte × Cpu) :
    Ensures State.Inv (modifyAccumulator f s) := (h.setCpu _).finish 1 2

theorem State.Inv.branch {s : State} (h : s.Inv) (cond : Bool) (d : Byte) : Ensures State.Inv (branch cond d s) := by
  unfold Machine.branch
  split
  · exact (h.setCpu _).finishJump _
  · exact h.finish 2 2

theorem State.Inv.unstableStore {r : Resolved × State} (h : r.2.Inv) (len base : Nat) (f : Cpu → Byte → Byte) :
    Ensures State.Inv (unstableStore len base f r) := (h.memWrite _ _).finish len base

/-- The fetch keeps the invariant. -/
theorem State.Inv.fetchInstr {s : State} (h : s.Inv) : (fetchInstr s).2.Inv := by
  unfold Machine.fetchInstr
  dsimp only
  split
  · exact h.memRead _
  · exact (h.memRead _).memRead _
  · exact ((h.memRead _).memRead _).memRead _

/-- The start of a step keeps the invariant. -/
theorem State.Inv.beginStep {s : State} (h : s.Inv) : (beginStep s).Inv := by
  unfold Machine.beginStep
  dsimp only
  split
  · exact State.Inv.tick _ ⟨h.ram, h.nmiDelay, h.ppu, h.cart, h.decay⟩
  · exact h.setFrameReady false

theorem State.Inv.clearPending {s : State} (h : s.Inv) : (clearPending s).Inv := ⟨h.ram, h.nmiDelay, h.ppu, h.cart, h.decay⟩

end Sys2Proof.Machine
end

