-- ==== Sys2Proof/Laws/Exec.lean ====
section
/-! SUPPORT. What each shape of instruction answers, as one next state: the ticks of the state the accesses leave, with the new
register file. And the stack operations, as cells of RAM. -/

namespace Sys2Proof.Machine

/-! ### The end of an instruction -/

/-- `finish` in one next state (R172). -/
theorem finish_eq (len cycles : Nat) (s : State) :
    finish len cycles s = .next ((tick cycles s).setCpu (s.cpu.setPc (s.cpu.pc + BitVec.ofNat 16 len))) := by
  unfold finish advancePc
  rw [tick_setCpu]

/-- `finish` of a state whose register file has just been replaced. -/
theorem finish_setCpu (len cycles : Nat) (s : State) (c : Cpu) :
    finish len cycles (s.setCpu c) = .next ((tick cycles s).setCpu (c.setPc (c.pc + BitVec.ofNat 16 len))) := by
  rw [finish_eq, tick_setCpu]
  rfl

/-- `finishJump` of a state whose register file has just been replaced. -/
theorem finishJump_setCpu (cycles : Nat) (s : State) (c : Cpu) :
    finishJump cycles (s.setCpu c) = .next ((tick cycles s).setCpu c) := by
  unfold finishJump
  rw [tick_setCpu]

/-! ### Shapes (R186, R188, R189) -/

/-- Immediate mode. -/
theorem immediate_eq (base : Nat) (f : Cpu → Byte → Cpu) (d : Byte) (s : State) :
    immediate base f d s = .next ((tick base s).setCpu ((f s.cpu d).setPc ((f s.cpu d).pc + 2))) := finish_setCpu 2 base s _

/-- Implied mode. -/
theorem impliedInstr_eq (f : Cpu → Cpu) (s : State) :
    impliedInstr f s = .next ((tick 2 s).setCpu ((f s.cpu).setPc ((f s.cpu).pc + 1))) := finish_setCpu 1 2 s _

/-- Read class. -/
theorem readInstr_eq (len base : Nat) (f : Cpu → Byte → Cpu) (ea : Word) (s : State) :
    readInstr len base f ea s =
      .next ((tick base (memRead ea s).2).setCpu
        ((f s.cpu (memRead ea s).1).setPc ((f s.cpu (memRead ea s).1).pc + BitVec.ofNat 16 len))) := by
  unfold readInstr readAt
  dsimp only
  rw [finish_setCpu, memRead_cpu]

/-- Read class in an indexed mode. -/
theorem readIndexed_eq (len base : Nat) (f : Cpu → Byte → Cpu) (r : Resolved × State) :
    readIndexed len base f r = readInstr len (base + bitNat r.1.crossed) f r.1.ea r.2 := rfl

/-- Write class. -/
theorem writeInstr_eq (len base : Nat) (ea : Word) (v : Byte) (s : State) :
    writeInstr len base ea v s =
      .next ((tick base (memWrite ea v s)).setCpu (s.cpu.setPc (s.cpu.pc + BitVec.ofNat 16 len))) := by
  unfold writeInstr
  rw [finish_eq, memWrite_cpu]

/-- Read-modify-write class. -/
theorem modifyInstr_eq (len base : Nat) (f : Cpu → Byte → Byte × Cpu) (ea : Word) (s : State) :
    modifyInstr len base f ea s =
      .next ((tick base (memWrite ea (f s.cpu (memRead ea s).1).1 (memRead ea s).2)).setCpu
        ((f s.cpu (memRead ea s).1).2.setPc ((f s.cpu (memRead ea s).1).2.pc + BitVec.ofNat 16 len))) := by
  unfold modifyInstr modifyAt
  dsimp only
  rw [finish_setCpu, memRead_cpu]

/-- Accumulator mode. -/
theorem modifyAccumulator_eq (f : Cpu → Byte → Byte × Cpu) (s : State) :
    modifyAccumulator f s =
      .next ((tick 2 s).setCpu
        (((f s.cpu s.cpu.a).2.setA (f s.cpu s.cpu.a).1).setPc (((f s.cpu s.cpu.a).2.setA (f s.cpu s.cpu.a).1).pc + 1))) :=
  finish_setCpu 1 2 s _

/-! ### Addressing leaves the register file and the cells alone -/

theorem zeropagePointer_frame (p : Byte) (s : State) : ReadFrame s (zeropagePointer p s).2 :=
  (memRead_frame _ s).trans (memRead_frame _ _)

theorem indirectX_frame (d : Byte) (s : State) : ReadFrame s (indirectX d s).2 := zeropagePointer_frame _ s

theorem indexNormal_frame (base : Word) (idx : Byte) (s : State) : ReadFrame s (indexNormal base idx s).2 := by
  unfold indexNormal dummyRead
  dsimp only
  split
  · exact memRead_frame _ s
  · exact ReadFrame.refl s

theorem indexForced_frame (base : Word) (idx : Byte) (s : State) : ReadFrame s (indexForced base idx s).2 := memRead_frame _ s

theorem indirectYNormal_frame (d : Byte) (s : State) : ReadFrame s (indirectYNormal d s).2 :=
  (zeropagePointer_frame d s).trans (indexNormal_frame _ _ _)

theorem indirectYForced_frame (d : Byte) (s : State) : ReadFrame s (indirectYForced d s).2 :=
  (zeropagePointer_frame d s).trans (indexForced_frame _ _ _)

/-- The word behind a zero-page pointer is two cells of RAM (R182, R183). -/
theorem zeropagePointer_fst (p : Byte) (s : State) :
    (zeropagePointer p s).1 = word (s.bus.ram.read (p + 1).toNat) (s.bus.ram.read p.toNat) := by
  have h : ∀ q : Byte, (zext q).toNat = q.toNat := by
    intro q
    unfold zext
    rw [BitVec.toNat_setWidth]
    exact Nat.mod_eq_of_lt (by have := q.isLt; omega)
  unfold zeropagePointer
  dsimp only
  rw [memRead_ram (zext p) s (by rw [h]; have := p.isLt; omega),
    memRead_ram (zext (p + 1)) _ (by rw [h]; have := (p + 1).isLt; omega), h, h]
  dsimp only
  rw [Nat.mod_eq_of_lt (by have := p.isLt; omega), Nat.mod_eq_of_lt (by have := (p + 1).isLt; omega)]
  rfl

/-! ### The stack -/

/-- The stack address of SP as a number (R34). -/
theorem stackAddr_toNat (sp : Byte) : (stackAddr sp).toNat = 256 + sp.toNat := by
  unfold stackAddr word
  rw [BitVec.toNat_or, BitVec.toNat_shiftLeft, BitVec.toNat_setWidth, BitVec.toNat_setWidth]
  have h1 : ((1#8 : Byte).toNat % 2 ^ 16) <<< 8 % 2 ^ 16 = 2 ^ 8 := by decide
  have h2 : sp.toNat % 2 ^ 16 = sp.toNat := Nat.mod_eq_of_lt (by have := sp.isLt; omega)
  rw [h1, h2]
  exact (Nat.two_pow_add_eq_or_of_lt sp.isLt 1).symm

/-- A push in one state (R104): one byte of RAM, the latch, and SP. -/
theorem push_eq (b : Byte) (s : State) :
    push b s = ((s.drive b).setBus { (s.drive b).bus with ram := s.bus.ram.write (256 + s.cpu.sp.toNat) b }).setCpu
      (s.cpu.setSp (s.cpu.sp - 1)) := by
  have h := stackAddr_toNat s.cpu.sp
  have hlt : (stackAddr s.cpu.sp).toNat < 0x2000 := by have := s.cpu.sp.isLt; omega
  unfold push
  dsimp only
  rw [memWrite_ram _ b s hlt, h, Nat.mod_eq_of_lt (by have := s.cpu.sp.isLt; omega)]
  rfl

/-- A pull in one state (R105): the byte of RAM above SP. -/
theorem pop_eq (s : State) :
    pop s = (s.bus.ram.read (256 + (s.cpu.sp + 1).toNat),
      (s.drive (s.bus.ram.read (256 + (s.cpu.sp + 1).toNat))).setCpu (s.cpu.setSp (s.cpu.sp + 1))) := by
  have h := stackAddr_toNat (s.cpu.sp + 1)
  have hlt : (stackAddr (s.cpu.sp + 1)).toNat < 0x2000 := by have := (s.cpu.sp + 1).isLt; omega
  show memRead (stackAddr (s.cpu.sp + 1)) (s.setCpu (s.cpu.setSp (s.cpu.sp + 1))) = _
  rw [memRead_ram _ _ hlt, h, Nat.mod_eq_of_lt (by have := (s.cpu.sp + 1).isLt; omega)]
  rfl

/-- A read of the cartridge window (R100, R484): the byte, and the latch driven with it. -/
theorem memRead_cart (addr : Word) (s : State) (h : 0x6000 ≤ addr.toNat) :
    memRead addr s = (s.cart.cpuRead addr.toNat, s.drive (s.cart.cpuRead addr.toNat)) := by
  unfold memRead
  have h1 : ¬ addr.toNat < 0x2000 := by omega
  have h2 : ¬ addr.toNat < 0x4000 := by omega
  have h3 : ¬ addr.toNat = 0x4014 := by omega
  have h4 : ¬ addr.toNat < 0x4018 := by omega
  have h5 : ¬ addr.toNat < 0x4020 := by omega
  have h6 : ¬ addr.toNat < 0x6000 := by omega
  simp only [h1, h2, h3, h4, h5, h6, if_false]

end Sys2Proof.Machine
end

