-- ==== Sys2Proof/Laws/Reset.lean ====
section
/-! SUPPORT. `State.reset` is what construction and `reset()` compute. -/

namespace Sys2Proof.Machine

/-- The launch contents of `State.reset`: memories that list nothing (notes/assumptions/1.md, notes/assumptions/5.md). -/
def Launch.blank : Launch := { ram := [], vram := [], oam := [], palette := [], openBusDecay := 29782 }

set_option maxRecDepth 4000 in
/-- The literal `State.reset` is `reset()` after construction from the blank cartridge (R590, R591), with `RESET_I = 1` and
`RESET_CYCLES = 7`. -/
theorem reset_is_hostReset_of_powerOn : hostReset true 7 (powerOn true Launch.blank Cart.blank) = State.reset := by rfl

end Sys2Proof.Machine
end

