-- ==== Sys2Proof/Laws/Stack.lean ====
section
/-! SUPPORT. What the stack operations, taking an interrupt and returning from one can do: the cells they reach, the register file
they leave, and everything they leave alone. Reads and writes of RAM and battery RAM as cells. -/

namespace Sys2Proof.Machine

/-! ### Cells of RAM and battery RAM -/

/-- A read in RAM or battery RAM answers the cell (R93, R484). -/
theorem memRead_plain (ea : Word) (s : State) (x : Site) (h : plainSite ea = some x) : (memRead ea s).1 = s.site x := by
  unfold plainSite at h
  dsimp only at h
  split at h
  · rename_i h1
    cases h
    rw [memRead_ram _ _ h1]
    rfl
  · split at h
    · rename_i h1 h2
      cases h
      rw [memRead_cart _ _ h2.1]
      unfold Cart.cpuRead
      rw [if_pos h2.2]
      rfl
    · cases h

/-- A write in RAM or battery RAM puts its byte in the cell (R93, R484). -/
theorem memWrite_plain (ea : Word) (v : Byte) (s : State) (hI : s.Inv) (x : Site) (h : plainSite ea = some x) :
    (memWrite ea v s).site x = v := by
  unfold plainSite at h
  dsimp only at h
  split at h
  · rename_i h1
    cases h
    rw [memWrite_ram _ _ _ h1]
    have hr := hI.ram
    unfold Memory.ok at hr
    rw [Bool.and_eq_true] at hr
    show Memory.read (Memory.write s.bus.ram _ _) _ = v
    rw [Memory.read_write _ _ _ _ hr.1, if_pos rfl]
  · split at h
    · rename_i h1 h2
      cases h
      have hr := hI.cart.sram
      unfold Memory.ok at hr
      rw [Bool.and_eq_true] at hr
      unfold memWrite Cart.cpuWrite
      have h3 : ¬ ea.toNat < 0x6000 := by omega
      have h4 : ¬ ea.toNat < 0x4020 := by omega
      have h5 : ¬ ea.toNat < 0x4018 := by omega
      have h6 : ¬ ea.toNat = 0x4014 := by omega
      have h7 : ¬ ea.toNat < 0x4000 := by omega
      simp only [h1, h3, h4, h5, h6, h7, h2.2, if_false, if_true]
      show Memory.read (Memory.write s.cart.sram _ _) _ = v
      rw [Memory.read_write _ _ _ _ hr.1, if_pos rfl]
    · cases h

/-! ### The frame of a stack access -/

/-- What a stack access leaves alone: everything but the register file, RAM and the bus latch. -/
structure StackFrame (s t : State) : Prop where
  irq        : t.irq = s.irq
  cycles     : t.cycles = s.cycles
  jammed     : t.jammed = s.jammed
  frameReady : t.frameReady = s.frameReady
  started    : t.started = s.started
  ppu        : t.ppu = s.ppu
  cart       : t.cart = s.cart
  io         : t.io = s.io
  decay      : t.openBusDecay = s.openBusDecay

theorem StackFrame.trans {s t u : State} (h : StackFrame s t) (g : StackFrame t u) : StackFrame s u :=
  ⟨g.irq.trans h.irq, g.cycles.trans h.cycles, g.jammed.trans h.jammed, g.frameReady.trans h.frameReady,
    g.started.trans h.started, g.ppu.trans h.ppu, g.cart.trans h.cart, g.io.trans h.io, g.decay.trans h.decay⟩

theorem StackFrame.setCpu (s : State) (c : Cpu) : StackFrame s (s.setCpu c) := ⟨rfl, rfl, rfl, rfl, rfl, rfl, rfl, rfl, rfl⟩

theorem StackFrame.fixed {s t : State} (h : StackFrame s t) : SameFixed s t :=
  ⟨by rw [h.cart], by rw [h.cart], by rw [h.cart], h.decay, h.started⟩

theorem StackFrame.port {s t : State} (h : StackFrame s t) : SamePort s t := by
  unfold SamePort
  rw [h.ppu]
  exact ⟨rfl, rfl, rfl, rfl, rfl, rfl, rfl⟩

/-! ### One byte (R104, R105) -/

theorem push_frame (b : Byte) (s : State) : StackFrame s (push b s) := by
  rw [push_eq]
  exact ⟨rfl, rfl, rfl, rfl, rfl, rfl, rfl, rfl, rfl⟩

theorem push_cpu (b : Byte) (s : State) : (push b s).cpu = s.cpu.setSp (s.cpu.sp - 1) := by
  rw [push_eq]
  rfl

/-- A push changes the one cell SP points at. -/
theorem push_storage (b : Byte) (s : State) : SameStorageBut [.ram (256 + s.cpu.sp.toNat)] s (push b s) := by
  intro x hx
  rw [push_eq, State.site_setCpu]
  cases x with
  | ram i => exact Memory.read_write_other _ _ _ _ fun he => hx (List.mem_singleton.mpr (by rw [he]))
  | oam i => rfl
  | palette i => rfl
  | vram i => rfl
  | sram i => rfl
  | chr i => rfl
  | prg i => rfl

/-- A push puts its byte in that cell. -/
theorem push_site (b : Byte) (s : State) (hI : s.Inv) : (push b s).site (.ram (256 + s.cpu.sp.toNat)) = b := by
  rw [push_eq, State.site_setCpu]
  have hr := hI.ram
  unfold Memory.ok at hr
  rw [Bool.and_eq_true] at hr
  show Memory.read (Memory.write s.bus.ram _ _) _ = b
  rw [Memory.read_write _ _ _ _ hr.1, if_pos rfl]

theorem pop_frame (s : State) : StackFrame s (pop s).2 := by
  rw [pop_eq]
  exact ⟨rfl, rfl, rfl, rfl, rfl, rfl, rfl, rfl, rfl⟩

theorem pop_cpu (s : State) : (pop s).2.cpu = s.cpu.setSp (s.cpu.sp + 1) := by
  rw [pop_eq]
  rfl

theorem pop_storage (s : State) : SameStorage s (pop s).2 := by
  rw [pop_eq]
  exact (ReadFrame.drive s _).storage.trans (SameStorage.setCpu _ _)

theorem pop_fst (s : State) : (pop s).1 = s.site (.ram (256 + (s.cpu.sp + 1).toNat)) := by
  rw [pop_eq]
  rfl

/-! ### Two bytes (R106, R107) -/

/-- SP arithmetic is modulo 256 (R34). -/
theorem sp_sub (a : Byte) (m n : Nat) : a - BitVec.ofNat 8 m - BitVec.ofNat 8 n = a - BitVec.ofNat 8 (m + n) := by
  rw [BitVec.ofNat_add, BitVec.sub_eq_add_neg, BitVec.sub_eq_add_neg, BitVec.sub_eq_add_neg, BitVec.neg_add, BitVec.add_assoc,
    BitVec.sub_eq_add_neg]

theorem sp_add (a : Byte) (m n : Nat) : a + BitVec.ofNat 8 m + BitVec.ofNat 8 n = a + BitVec.ofNat 8 (m + n) := by
  rw [BitVec.ofNat_add, BitVec.add_assoc]

theorem pushWord_frame (w : Word) (s : State) : StackFrame s (pushWord w s) := (push_frame _ _).trans (push_frame _ _)

theorem pushWord_cpu (w : Word) (s : State) : (pushWord w s).cpu = s.cpu.setSp (s.cpu.sp - 2) := by
  unfold pushWord
  rw [push_cpu, push_cpu]
  exact congrArg s.cpu.setSp (sp_sub s.cpu.sp 1 1)

theorem popWord_frame (s : State) : StackFrame s (popWord s).2 := (pop_frame _).trans (pop_frame _)

theorem popWord_storage (s : State) : SameStorage s (popWord s).2 := (pop_storage _).trans (pop_storage _)

theorem popWord_cpu (s : State) : (popWord s).2.cpu = s.cpu.setSp (s.cpu.sp + 2) := by
  unfold popWord
  dsimp only
  rw [pop_cpu, pop_cpu]
  exact congrArg s.cpu.setSp (sp_add s.cpu.sp 1 1)

/-- The pulled word: high byte at SP + 2, low byte at SP + 1. -/
theorem popWord_fst (s : State) :
    (popWord s).1 = word (s.site (.ram (256 + (s.cpu.sp + 2).toNat))) (s.site (.ram (256 + (s.cpu.sp + 1).toNat))) := by
  have h : s.cpu.sp + 1 + 1 = s.cpu.sp + 2 := sp_add s.cpu.sp 1 1
  unfold popWord
  dsimp only
  rw [pop_fst, pop_fst, pop_cpu, Cpu.setSp_sp, h, pop_storage]

/-- Two stack cells that are one or two apart are different cells. -/
theorem stack_ne (a : Byte) (n : Nat) (h : n = 1 ∨ n = 2) : 256 + a.toNat ≠ 256 + (a - BitVec.ofNat 8 n).toNat := by
  have ha := a.isLt
  rcases h with rfl | rfl <;> rw [BitVec.toNat_sub] <;> simp only [BitVec.toNat_ofNat] <;> omega

theorem pushWord_storage (w : Word) (s : State) :
    SameStorageBut [.ram (256 + s.cpu.sp.toNat), .ram (256 + (s.cpu.sp - 1).toNat)] s (pushWord w s) := by
  intro x hx
  simp only [List.mem_cons, List.not_mem_nil, or_false, not_or] at hx
  unfold pushWord
  rw [push_storage _ _ x (by rw [push_cpu, Cpu.setSp_sp, List.mem_singleton]; exact hx.2),
    push_storage _ _ x (by rw [List.mem_singleton]; exact hx.1)]

/-- A pushed word: the high byte at SP, the low byte below it. -/
theorem pushWord_site (w : Word) (s : State) (hI : s.Inv) :
    (pushWord w s).site (.ram (256 + s.cpu.sp.toNat)) = hi w ∧ (pushWord w s).site (.ram (256 + (s.cpu.sp - 1).toNat)) = lo w := by
  unfold pushWord
  constructor
  · rw [push_storage _ _ _ ?_, push_site _ _ hI]
    rw [push_cpu, Cpu.setSp_sp, List.mem_singleton]
    intro he
    injection he with he
    exact stack_ne s.cpu.sp 1 (.inl rfl) he
  · have h := push_site (lo w) (push (hi w) s) (hI.push _)
    rw [push_cpu, Cpu.setSp_sp] at h
    exact h

/-! ### Taking an interrupt and returning from one (R550, R285, R284) -/

/-- Taking an interrupt, as the register file it leaves: SP three less, I set, PC from the vector. -/
theorem enterInterrupt_cpu (ret : Word) (brk : Bool) (vector : Word) (s : State) (hv : 0x6000 ≤ vector.toNat ∧ vector.toNat < 0xFFFF) :
    (enterInterrupt ret brk vector s).cpu =
      ((s.cpu.setSp (s.cpu.sp - 3)).setPc (word (s.cart.cpuRead (vector.toNat + 1)) (s.cart.cpuRead vector.toNat))).setP
        { s.cpu.p with i := true } := by
  have h1 : (vector + 1).toNat = vector.toNat + 1 := by
    rw [BitVec.toNat_add]
    exact Nat.mod_eq_of_lt (by show vector.toNat + 1 < 65536; omega)
  have hf := (pushWord_frame ret s).trans (push_frame ((pushWord ret s).cpu.p.toByte brk) (pushWord ret s))
  have hc : (push ((pushWord ret s).cpu.p.toByte brk) (pushWord ret s)).cpu = s.cpu.setSp (s.cpu.sp - 3) := by
    rw [push_cpu, pushWord_cpu]
    exact congrArg s.cpu.setSp (sp_sub s.cpu.sp 2 1)
  unfold enterInterrupt memReadWord
  dsimp only
  rw [memRead_cart (vector + 1) _ (by omega), memRead_cart vector _ hv.1]
  dsimp only
  rw [h1, State.setCpu_cpu, State.drive_cart, State.drive_cpu, State.drive_cpu, hf.cart, hc]
  rfl

/-- Taking an interrupt changes three cells of the stack and no other. -/
theorem enterInterrupt_storage (ret : Word) (brk : Bool) (vector : Word) (s : State) :
    SameStorageBut [.ram (256 + s.cpu.sp.toNat), .ram (256 + (s.cpu.sp - 1).toNat), .ram (256 + (s.cpu.sp - 2).toNat)] s
      (enterInterrupt ret brk vector s) := by
  intro x hx
  simp only [List.mem_cons, List.not_mem_nil, or_false, not_or] at hx
  unfold enterInterrupt memReadWord
  dsimp only
  rw [State.site_setCpu, memRead_storage, memRead_storage,
    push_storage _ _ x (by rw [pushWord_cpu, Cpu.setSp_sp, List.mem_singleton]; exact hx.2.2),
    pushWord_storage _ _ x (by simp only [List.mem_cons, List.not_mem_nil, or_false, not_or]; exact ⟨hx.1, hx.2.1⟩)]

/-- The three bytes an interrupt pushes: the return address, high byte first, and the flags with the break bit and the old I. -/
theorem enterInterrupt_site (ret : Word) (brk : Bool) (vector : Word) (s : State) (hI : s.Inv) :
    (enterInterrupt ret brk vector s).site (.ram (256 + s.cpu.sp.toNat)) = hi ret ∧
      (enterInterrupt ret brk vector s).site (.ram (256 + (s.cpu.sp - 1).toNat)) = lo ret ∧
      (enterInterrupt ret brk vector s).site (.ram (256 + (s.cpu.sp - 2).toNat)) = s.cpu.p.toByte brk := by
  have hw := pushWord_site ret s hI
  have hcpu := pushWord_cpu ret s
  have hp := push_site ((pushWord ret s).cpu.p.toByte brk) (pushWord ret s) (hI.pushWord ret)
  rw [hcpu, Cpu.setSp_sp] at hp
  have hs := push_storage ((pushWord ret s).cpu.p.toByte brk) (pushWord ret s)
  rw [hcpu, Cpu.setSp_sp] at hs
  unfold enterInterrupt memReadWord
  dsimp only
  refine ⟨?_, ?_, ?_⟩ <;> rw [State.site_setCpu, memRead_storage, memRead_storage, hcpu]
  · rw [hs _ ?_]
    · exact hw.1
    · rw [List.mem_singleton]
      intro he
      injection he with he
      exact stack_ne s.cpu.sp 2 (.inr rfl) he
  · rw [hs _ ?_]
    · exact hw.2
    · rw [List.mem_singleton]
      intro he
      injection he with he
      exact stack_ne (s.cpu.sp - 1) 1 (.inl rfl) (he.trans (congrArg (fun b : Byte => 256 + b.toNat) (sp_sub s.cpu.sp 1 1).symm))
  · exact hp

/-- Returning from an interrupt, as the register file it leaves (R284). -/
theorem returnFromInterrupt_cpu (s : State) :
    (returnFromInterrupt s).cpu =
      ((s.cpu.setSp (s.cpu.sp + 3)).setP (Flags.ofByte (s.site (.ram (256 + (s.cpu.sp + 1).toNat))))).setPc
        (word (s.site (.ram (256 + (s.cpu.sp + 3).toNat))) (s.site (.ram (256 + (s.cpu.sp + 2).toNat)))) := by
  have h3 : s.cpu.sp + 1 + 2 = s.cpu.sp + 3 := sp_add s.cpu.sp 1 2
  have h2 : s.cpu.sp + 1 + 1 = s.cpu.sp + 2 := sp_add s.cpu.sp 1 1
  unfold returnFromInterrupt
  dsimp only
  rw [State.setCpu_cpu, popWord_cpu, popWord_fst, State.setCpu_cpu, pop_cpu, pop_fst, State.site_setCpu, State.site_setCpu,
    pop_storage, pop_storage, Cpu.setP_sp, Cpu.setSp_sp, h3, h2]
  rfl

theorem returnFromInterrupt_frame (s : State) : StackFrame s (returnFromInterrupt s) :=
  (((pop_frame s).trans (StackFrame.setCpu _ _)).trans (popWord_frame _)).trans (StackFrame.setCpu _ _)

theorem returnFromInterrupt_storage (s : State) : SameStorage s (returnFromInterrupt s) :=
  (((pop_storage s).trans (SameStorage.setCpu _ _)).trans (popWord_storage _)).trans (SameStorage.setCpu _ _)

/-! ### One PPU cycle, field by field (R400 to R403) -/

theorem ppuDot_ppu (s : State) : (ppuDot s).ppu = s.ppu.dot s.cart := by
  unfold ppuDot
  dsimp only
  split <;> rfl

theorem ppuDot_irq (s : State) : (ppuDot s).irq = nmiPart s.ppu.scanline s.ppu.cycle s.ppu.ctrlNmiEnable s.irq := by
  unfold ppuDot
  dsimp only
  split <;> rfl

theorem ppuDot_frameReady (s : State) :
    (ppuDot s).frameReady = (s.frameReady || decide (s.ppu.scanline = 261 ∧ s.ppu.cycle = 340)) := by
  unfold ppuDot
  dsimp only
  split <;> rfl

/-- A read in the window of the PPU port is a read of one of its eight registers (R94, R380). -/
theorem memRead_port (addr : Word) (s : State) (h1 : 0x2000 ≤ addr.toNat) (h2 : addr.toNat < 0x4000) :
    memRead addr s = ppuRegRead (addr.toNat % 8) s := by
  unfold memRead
  have h : ¬ addr.toNat < 0x2000 := by omega
  simp only [h, h2, if_true, if_false]

/-- A write in the window of the PPU port (R94, R380). -/
theorem memWrite_port (addr : Word) (v : Byte) (s : State) (h1 : 0x2000 ≤ addr.toNat) (h2 : addr.toNat < 0x4000) :
    memWrite addr v s = ppuRegWrite (addr.toNat % 8) v (s.drive v) := by
  unfold memWrite
  have h : ¬ addr.toNat < 0x2000 := by omega
  simp only [h, h2, if_true, if_false]

end Sys2Proof.Machine
end

