-- ==== Sys2Proof/Tests/Slice0.lean ====
section
/-! SUPPORT. The model's own tests: ill-formed terms refused, every row of the opcode table decoded from a word written out from
the table, single steps and device operations with the results of 95_test_vectors.md, and one witness for each statement that has
hypotheses. -/

namespace Sys2Proof.Tests

open Sys2Proof.Machine
open Sys2Proof.Claims hiding pixelIndex

set_option maxRecDepth 20000
set_option Elab.async false

/-! ### Well-formedness: what the check refuses (R140) -/

theorem test_wellFormed_refuses_empty : wellFormedBytes [] = false := by decide
theorem test_wellFormed_refuses_missing_operand : wellFormedBytes [0xA9#8] = false := by decide
theorem test_wellFormed_refuses_half_operand : wellFormedBytes [0x4C#8, 0x00#8] = false := by decide
theorem test_wellFormed_refuses_extra_byte : wellFormedBytes [0xEA#8, 0x00#8] = false := by decide
theorem test_wellFormed_accepts_three_bytes : wellFormedBytes [0x4C#8, 0x00#8, 0x80#8] = true := by decide

/-! ### Decoding: all 256 rows of the table of R145, operand bytes 0x34 and 0x12 -/

theorem test_decode_row_0 :
    [decodeTableWord 8 0x00, decodeTableWord 16 0x3401, decodeTableWord 8 0x02, decodeTableWord 16 0x3403,
     decodeTableWord 16 0x3404, decodeTableWord 16 0x3405, decodeTableWord 16 0x3406, decodeTableWord 16 0x3407,
     decodeTableWord 8 0x08, decodeTableWord 16 0x3409, decodeTableWord 8 0x0A, decodeTableWord 16 0x340B,
     decodeTableWord 24 0x12340C, decodeTableWord 24 0x12340D, decodeTableWord 24 0x12340E, decodeTableWord 24 0x12340F] =
    [some .brk, some (.oraIndirectX 0x34), some .jam02, some (.sloIndirectX 0x34), some (.nopZeropage04 0x34),
     some (.oraZeropage 0x34), some (.aslZeropage 0x34), some (.sloZeropage 0x34), some .php, some (.oraImmediate 0x34),
     some .aslAccumulator, some (.ancImmediate0B 0x34), some (.nopAbsolute 0x1234), some (.oraAbsolute 0x1234),
     some (.aslAbsolute 0x1234), some (.sloAbsolute 0x1234)] := by
  decide

theorem test_decode_row_1 :
    [decodeTableWord 16 0x3410, decodeTableWord 16 0x3411, decodeTableWord 8 0x12, decodeTableWord 16 0x3413,
     decodeTableWord 16 0x3414, decodeTableWord 16 0x3415, decodeTableWord 16 0x3416, decodeTableWord 16 0x3417,
     decodeTableWord 8 0x18, decodeTableWord 24 0x123419, decodeTableWord 8 0x1A, decodeTableWord 24 0x12341B,
     decodeTableWord 24 0x12341C, decodeTableWord 24 0x12341D, decodeTableWord 24 0x12341E, decodeTableWord 24 0x12341F] =
    [some (.bpl 0x34), some (.oraIndirectY 0x34), some .jam12, some (.sloIndirectY 0x34), some (.nopZeropageX14 0x34),
     some (.oraZeropageX 0x34), some (.aslZeropageX 0x34), some (.sloZeropageX 0x34), some .clc, some (.oraAbsoluteY 0x1234),
     some .nop1A, some (.sloAbsoluteY 0x1234), some (.nopAbsoluteX1C 0x1234), some (.oraAbsoluteX 0x1234),
     some (.aslAbsoluteX 0x1234), some (.sloAbsoluteX 0x1234)] := by
  decide

theorem test_decode_row_2 :
    [decodeTableWord 24 0x123420, decodeTableWord 16 0x3421, decodeTableWord 8 0x22, decodeTableWord 16 0x3423,
     decodeTableWord 16 0x3424, decodeTableWord 16 0x3425, decodeTableWord 16 0x3426, decodeTableWord 16 0x3427,
     decodeTableWord 8 0x28, decodeTableWord 16 0x3429, decodeTableWord 8 0x2A, decodeTableWord 16 0x342B,
     decodeTableWord 24 0x12342C, decodeTableWord 24 0x12342D, decodeTableWord 24 0x12342E, decodeTableWord 24 0x12342F] =
    [some (.jsr 0x1234), some (.andIndirectX 0x34), some .jam22, some (.rlaIndirectX 0x34), some (.bitZeropage 0x34),
     some (.andZeropage 0x34), some (.rolZeropage 0x34), some (.rlaZeropage 0x34), some .plp, some (.andImmediate 0x34),
     some .rolAccumulator, some (.ancImmediate2B 0x34), some (.bitAbsolute 0x1234), some (.andAbsolute 0x1234),
     some (.rolAbsolute 0x1234), some (.rlaAbsolute 0x1234)] := by
  decide

theorem test_decode_row_3 :
    [decodeTableWord 16 0x3430, decodeTableWord 16 0x3431, decodeTableWord 8 0x32, decodeTableWord 16 0x3433,
     decodeTableWord 16 0x3434, decodeTableWord 16 0x3435, decodeTableWord 16 0x3436, decodeTableWord 16 0x3437,
     decodeTableWord 8 0x38, decodeTableWord 24 0x123439, decodeTableWord 8 0x3A, decodeTableWord 24 0x12343B,
     decodeTableWord 24 0x12343C, decodeTableWord 24 0x12343D, decodeTableWord 24 0x12343E, decodeTableWord 24 0x12343F] =
    [some (.bmi 0x34), some (.andIndirectY 0x34), some .jam32, some (.rlaIndirectY 0x34), some (.nopZeropageX34 0x34),
     some (.andZeropageX 0x34), some (.rolZeropageX 0x34), some (.rlaZeropageX 0x34), some .sec, some (.andAbsoluteY 0x1234),
     some .nop3A, some (.rlaAbsoluteY 0x1234), some (.nopAbsoluteX3C 0x1234), some (.andAbsoluteX 0x1234),
     some (.rolAbsoluteX 0x1234), some (.rlaAbsoluteX 0x1234)] := by
  decide

theorem test_decode_row_4 :
    [decodeTableWord 8 0x40, decodeTableWord 16 0x3441, decodeTableWord 8 0x42, decodeTableWord 16 0x3443,
     decodeTableWord 16 0x3444, decodeTableWord 16 0x3445, decodeTableWord 16 0x3446, decodeTableWord 16 0x3447,
     decodeTableWord 8 0x48, decodeTableWord 16 0x3449, decodeTableWord 8 0x4A, decodeTableWord 16 0x344B,
     decodeTableWord 24 0x12344C, decodeTableWord 24 0x12344D, decodeTableWord 24 0x12344E, decodeTableWord 24 0x12344F] =
    [some .rti, some (.eorIndirectX 0x34), some .jam42, some (.sreIndirectX 0x34), some (.nopZeropage44 0x34),
     some (.eorZeropage 0x34), some (.lsrZeropage 0x34), some (.sreZeropage 0x34), some .pha, some (.eorImmediate 0x34),
     some .lsrAccumulator, some (.alrImmediate 0x34), some (.jmpAbsolute 0x1234), some (.eorAbsolute 0x1234),
     some (.lsrAbsolute 0x1234), some (.sreAbsolute 0x1234)] := by
  decide

theorem test_decode_row_5 :
    [decodeTableWord 16 0x3450, decodeTableWord 16 0x3451, decodeTableWord 8 0x52, decodeTableWord 16 0x3453,
     decodeTableWord 16 0x3454, decodeTableWord 16 0x3455, decodeTableWord 16 0x3456, decodeTableWord 16 0x3457,
     decodeTableWord 8 0x58, decodeTableWord 24 0x123459, decodeTableWord 8 0x5A, decodeTableWord 24 0x12345B,
     decodeTableWord 24 0x12345C, decodeTableWord 24 0x12345D, decodeTableWord 24 0x12345E, decodeTableWord 24 0x12345F] =
    [some (.bvc 0x34), some (.eorIndirectY 0x34), some .jam52, some (.sreIndirectY 0x34), some (.nopZeropageX54 0x34),
     some (.eorZeropageX 0x34), some (.lsrZeropageX 0x34), some (.sreZeropageX 0x34), some .cli, some (.eorAbsoluteY 0x1234),
     some .nop5A, some (.sreAbsoluteY 0x1234), some (.nopAbsoluteX5C 0x1234), some (.eorAbsoluteX 0x1234),
     some (.lsrAbsoluteX 0x1234), some (.sreAbsoluteX 0x1234)] := by
  decide

theorem test_decode_row_6 :
    [decodeTableWord 8 0x60, decodeTableWord 16 0x3461, decodeTableWord 8 0x62, decodeTableWord 16 0x3463,
     decodeTableWord 16 0x3464, decodeTableWord 16 0x3465, decodeTableWord 16 0x3466, decodeTableWord 16 0x3467,
     decodeTableWord 8 0x68, decodeTableWord 16 0x3469, decodeTableWord 8 0x6A, decodeTableWord 16 0x346B,
     decodeTableWord 24 0x12346C, decodeTableWord 24 0x12346D, decodeTableWord 24 0x12346E, decodeTableWord 24 0x12346F] =
    [some .rts, some (.adcIndirectX 0x34), some .jam62, some (.rraIndirectX 0x34), some (.nopZeropage64 0x34),
     some (.adcZeropage 0x34), some (.rorZeropage 0x34), some (.rraZeropage 0x34), some .pla, some (.adcImmediate 0x34),
     some .rorAccumulator, some (.arrImmediate 0x34), some (.jmpIndirect 0x1234), some (.adcAbsolute 0x1234),
     some (.rorAbsolute 0x1234), some (.rraAbsolute 0x1234)] := by
  decide

theorem test_decode_row_7 :
    [decodeTableWord 16 0x3470, decodeTableWord 16 0x3471, decodeTableWord 8 0x72, decodeTableWord 16 0x3473,
     decodeTableWord 16 0x3474, decodeTableWord 16 0x3475, decodeTableWord 16 0x3476, decodeTableWord 16 0x3477,
     decodeTableWord 8 0x78, decodeTableWord 24 0x123479, decodeTableWord 8 0x7A, decodeTableWord 24 0x12347B,
     decodeTableWord 24 0x12347C, decodeTableWord 24 0x12347D, decodeTableWord 24 0x12347E, decodeTableWord 24 0x12347F] =
    [some (.bvs 0x34), some (.adcIndirectY 0x34), some .jam72, some (.rraIndirectY 0x34), some (.nopZeropageX74 0x34),
     some (.adcZeropageX 0x34), some (.rorZeropageX 0x34), some (.rraZeropageX 0x34), some .sei, some (.adcAbsoluteY 0x1234),
     some .nop7A, some (.rraAbsoluteY 0x1234), some (.nopAbsoluteX7C 0x1234), some (.adcAbsoluteX 0x1234),
     some (.rorAbsoluteX 0x1234), some (.rraAbsoluteX 0x1234)] := by
  decide

theorem test_decode_row_8 :
    [decodeTableWord 16 0x3480, decodeTableWord 16 0x3481, decodeTableWord 16 0x3482, decodeTableWord 16 0x3483,
     decodeTableWord 16 0x3484, decodeTableWord 16 0x3485, decodeTableWord 16 0x3486, decodeTableWord 16 0x3487,
     decodeTableWord 8 0x88, decodeTableWord 16 0x3489, decodeTableWord 8 0x8A, decodeTableWord 16 0x348B,
     decodeTableWord 24 0x12348C, decodeTableWord 24 0x12348D, decodeTableWord 24 0x12348E, decodeTableWord 24 0x12348F] =
    [some (.nopImmediate80 0x34), some (.staIndirectX 0x34), some (.nopImmediate82 0x34), some (.saxIndirectX 0x34),
     some (.styZeropage 0x34), some (.staZeropage 0x34), some (.stxZeropage 0x34), some (.saxZeropage 0x34), some .dey,
     some (.nopImmediate89 0x34), some .txa, some (.aneImmediate 0x34), some (.styAbsolute 0x1234), some (.staAbsolute 0x1234),
     some (.stxAbsolute 0x1234), some (.saxAbsolute 0x1234)] := by
  decide

theorem test_decode_row_9 :
    [decodeTableWord 16 0x3490, decodeTableWord 16 0x3491, decodeTableWord 8 0x92, decodeTableWord 16 0x3493,
     decodeTableWord 16 0x3494, decodeTableWord 16 0x3495, decodeTableWord 16 0x3496, decodeTableWord 16 0x3497,
     decodeTableWord 8 0x98, decodeTableWord 24 0x123499, decodeTableWord 8 0x9A, decodeTableWord 24 0x12349B,
     decodeTableWord 24 0x12349C, decodeTableWord 24 0x12349D, decodeTableWord 24 0x12349E, decodeTableWord 24 0x12349F] =
    [some (.bcc 0x34), some (.staIndirectY 0x34), some .jam92, some (.shaIndirectY 0x34), some (.styZeropageX 0x34),
     some (.staZeropageX 0x34), some (.stxZeropageY 0x34), some (.saxZeropageY 0x34), some .tya, some (.staAbsoluteY 0x1234),
     some .txs, some (.tasAbsoluteY 0x1234), some (.shyAbsoluteX 0x1234), some (.staAbsoluteX 0x1234),
     some (.shxAbsoluteY 0x1234), some (.shaAbsoluteY 0x1234)] := by
  decide

theorem test_decode_row_A :
    [decodeTableWord 16 0x34A0, decodeTableWord 16 0x34A1, decodeTableWord 16 0x34A2, decodeTableWord 16 0x34A3,
     decodeTableWord 16 0x34A4, decodeTableWord 16 0x34A5, decodeTableWord 16 0x34A6, decodeTableWord 16 0x34A7,
     decodeTableWord 8 0xA8, decodeTableWord 16 0x34A9, decodeTableWord 8 0xAA, decodeTableWord 16 0x34AB,
     decodeTableWord 24 0x1234AC, decodeTableWord 24 0x1234AD, decodeTableWord 24 0x1234AE, decodeTableWord 24 0x1234AF] =
    [some (.ldyImmediate 0x34), some (.ldaIndirectX 0x34), some (.ldxImmediate 0x34), some (.laxIndirectX 0x34),
     some (.ldyZeropage 0x34), some (.ldaZeropage 0x34), some (.ldxZeropage 0x34), some (.laxZeropage 0x34), some .tay,
     some (.ldaImmediate 0x34), some .tax, some (.lxaImmediate 0x34), some (.ldyAbsolute 0x1234), some (.ldaAbsolute 0x1234),
     some (.ldxAbsolute 0x1234), some (.laxAbsolute 0x1234)] := by
  decide

theorem test_decode_row_B :
    [decodeTableWord 16 0x34B0, decodeTableWord 16 0x34B1, decodeTableWord 8 0xB2, decodeTableWord 16 0x34B3,
     decodeTableWord 16 0x34B4, decodeTableWord 16 0x34B5, decodeTableWord 16 0x34B6, decodeTableWord 16 0x34B7,
     decodeTableWord 8 0xB8, decodeTableWord 24 0x1234B9, decodeTableWord 8 0xBA, decodeTableWord 24 0x1234BB,
     decodeTableWord 24 0x1234BC, decodeTableWord 24 0x1234BD, decodeTableWord 24 0x1234BE, decodeTableWord 24 0x1234BF] =
    [some (.bcs 0x34), some (.ldaIndirectY 0x34), some .jamB2, some (.laxIndirectY 0x34), some (.ldyZeropageX 0x34),
     some (.ldaZeropageX 0x34), some (.ldxZeropageY 0x34), some (.laxZeropageY 0x34), some .clv, some (.ldaAbsoluteY 0x1234),
     some .tsx, some (.lasAbsoluteY 0x1234), some (.ldyAbsoluteX 0x1234), some (.ldaAbsoluteX 0x1234),
     some (.ldxAbsoluteY 0x1234), some (.laxAbsoluteY 0x1234)] := by
  decide

theorem test_decode_row_C :
    [decodeTableWord 16 0x34C0, decodeTableWord 16 0x34C1, decodeTableWord 16 0x34C2, decodeTableWord 16 0x34C3,
     decodeTableWord 16 0x34C4, decodeTableWord 16 0x34C5, decodeTableWord 16 0x34C6, decodeTableWord 16 0x34C7,
     decodeTableWord 8 0xC8, decodeTableWord 16 0x34C9, decodeTableWord 8 0xCA, decodeTableWord 16 0x34CB,
     decodeTableWord 24 0x1234CC, decodeTableWord 24 0x1234CD, decodeTableWord 24 0x1234CE, decodeTableWord 24 0x1234CF] =
    [some (.cpyImmediate 0x34), some (.cmpIndirectX 0x34), some (.nopImmediateC2 0x34), some (.dcpIndirectX 0x34),
     some (.cpyZeropage 0x34), some (.cmpZeropage 0x34), some (.decZeropage 0x34), some (.dcpZeropage 0x34), some .iny,
     some (.cmpImmediate 0x34), some .dex, some (.sbxImmediate 0x34), some (.cpyAbsolute 0x1234), some (.cmpAbsolute 0x1234),
     some (.decAbsolute 0x1234), some (.dcpAbsolute 0x1234)] := by
  decide

theorem test_decode_row_D :
    [decodeTableWord 16 0x34D0, decodeTableWord 16 0x34D1, decodeTableWord 8 0xD2, decodeTableWord 16 0x34D3,
     decodeTableWord 16 0x34D4, decodeTableWord 16 0x34D5, decodeTableWord 16 0x34D6, decodeTableWord 16 0x34D7,
     decodeTableWord 8 0xD8, decodeTableWord 24 0x1234D9, decodeTableWord 8 0xDA, decodeTableWord 24 0x1234DB,
     decodeTableWord 24 0x1234DC, decodeTableWord 24 0x1234DD, decodeTableWord 24 0x1234DE, decodeTableWord 24 0x1234DF] =
    [some (.bne 0x34), some (.cmpIndirectY 0x34), some .jamD2, some (.dcpIndirectY 0x34), some (.nopZeropageXD4 0x34),
     some (.cmpZeropageX 0x34), some (.decZeropageX 0x34), some (.dcpZeropageX 0x34), some .cld, some (.cmpAbsoluteY 0x1234),
     some .nopDA, some (.dcpAbsoluteY 0x1234), some (.nopAbsoluteXDC 0x1234), some (.cmpAbsoluteX 0x1234),
     some (.decAbsoluteX 0x1234), some (.dcpAbsoluteX 0x1234)] := by
  decide

theorem test_decode_row_E :
    [decodeTableWord 16 0x34E0, decodeTableWord 16 0x34E1, decodeTableWord 16 0x34E2, decodeTableWord 16 0x34E3,
     decodeTableWord 16 0x34E4, decodeTableWord 16 0x34E5, decodeTableWord 16 0x34E6, decodeTableWord 16 0x34E7,
     decodeTableWord 8 0xE8, decodeTableWord 16 0x34E9, decodeTableWord 8 0xEA, decodeTableWord 16 0x34EB,
     decodeTableWord 24 0x1234EC, decodeTableWord 24 0x1234ED, decodeTableWord 24 0x1234EE, decodeTableWord 24 0x1234EF] =
    [some (.cpxImmediate 0x34), some (.sbcIndirectX 0x34), some (.nopImmediateE2 0x34), some (.isbIndirectX 0x34),
     some (.cpxZeropage 0x34), some (.sbcZeropage 0x34), some (.incZeropage 0x34), some (.isbZeropage 0x34), some .inx,
     some (.sbcImmediate 0x34), some .nop, some (.sbcImmediateEB 0x34), some (.cpxAbsolute 0x1234), some (.sbcAbsolute 0x1234),
     some (.incAbsolute 0x1234), some (.isbAbsolute 0x1234)] := by
  decide

theorem test_decode_row_F :
    [decodeTableWord 16 0x34F0, decodeTableWord 16 0x34F1, decodeTableWord 8 0xF2, decodeTableWord 16 0x34F3,
     decodeTableWord 16 0x34F4, decodeTableWord 16 0x34F5, decodeTableWord 16 0x34F6, decodeTableWord 16 0x34F7,
     decodeTableWord 8 0xF8, decodeTableWord 24 0x1234F9, decodeTableWord 8 0xFA, decodeTableWord 24 0x1234FB,
     decodeTableWord 24 0x1234FC, decodeTableWord 24 0x1234FD, decodeTableWord 24 0x1234FE, decodeTableWord 24 0x1234FF] =
    [some (.beq 0x34), some (.sbcIndirectY 0x34), some .jamF2, some (.isbIndirectY 0x34), some (.nopZeropageXF4 0x34),
     some (.sbcZeropageX 0x34), some (.incZeropageX 0x34), some (.isbZeropageX 0x34), some .sed, some (.sbcAbsoluteY 0x1234),
     some .nopFA, some (.isbAbsoluteY 0x1234), some (.nopAbsoluteXFC 0x1234), some (.sbcAbsoluteX 0x1234),
     some (.incAbsoluteX 0x1234), some (.isbAbsoluteX 0x1234)] := by
  decide

/-- Too few bytes are refused by name. -/
theorem test_decode_refuses_short :
    decode [] = .error .empty ∧ decode [0x20#8] = .error (.missingOperand 0x20) ∧
      decode [0x20#8, 0x34#8] = .error (.missingOperand 0x20) := ⟨rfl, rfl, rfl⟩

/-! ### One step each, from 95_test_vectors.md part 2: harness H, the bytes at PC -/

/-- The flags at the start of a vector: I set. -/
def start : Flags := { c := false, z := false, i := true, d := false, v := false, n := false }

/-- The harness H with these registers and these bytes of RAM. -/
def machine (a x y sp : Byte) (pc : Word) (p : Flags) (cells : List (Nat × Byte)) : State :=
  { State.reset with
    cpu := { a := a, x := x, y := y, sp := sp, pc := pc, p := p }
    cycles := 0
    ppu := Ppu.powerOn
    bus := { ram := cells.foldl (fun m c => m.write c.1 c.2) [], latch := 0, latchAge := 0 } }

/-- The outcome is a next state with the property. -/
def after (r : Result) (f : State → Bool) : Bool :=
  match r with
  | .next t => f t
  | _ => false

/-- These are the registers, the flags as the byte PHP pushes less bit 4, and the cycles. -/
def has (t : State) (a x y sp : Nat) (pc p cycles : Nat) : Bool :=
  [t.cpu.a.toNat, t.cpu.x.toNat, t.cpu.y.toNat, t.cpu.sp.toNat, t.cpu.pc.toNat, (statusByte t.cpu.p false).toNat, t.cycles] ==
    [a, x, y, sp, pc, p, cycles]

/-- AD3: R231, R246. -/
theorem test_AD3_adcImmediate :
    after (step (machine 0x50 0x00 0x00 0xFD 0x0200 start [(0x200, 0x69), (0x201, 0x90)]))
      (fun t => has t 0xE0 0x00 0x00 0xFD 0x0202 0xA4 2) = true := by decide +kernel

/-- AD13: R231, R230. -/
theorem test_AD13_adcImmediate :
    after (step (machine 0x09 0x00 0x00 0xFD 0x0200 { start with d := true } [(0x200, 0x69), (0x201, 0x01)]))
      (fun t => has t 0x0A 0x00 0x00 0xFD 0x0202 0x2C 2) = true := by decide +kernel

/-- SB4: R232, R246. -/
theorem test_SB4_sbcImmediate :
    after (step (machine 0x50 0x00 0x00 0xFD 0x0200 { start with c := true } [(0x200, 0xE9), (0x201, 0x30)]))
      (fun t => has t 0x20 0x00 0x00 0xFD 0x0202 0x25 2) = true := by decide +kernel

/-- LG1: R233. -/
theorem test_LG1_andImmediate :
    after (step (machine 0xF0 0x00 0x00 0xFD 0x0200 start [(0x200, 0x29), (0x201, 0x0F)]))
      (fun t => has t 0x00 0x00 0x00 0xFD 0x0202 0x26 2) = true := by decide +kernel

/-- LG4: R236, R247. -/
theorem test_LG4_cmpImmediate :
    after (step (machine 0x40 0x00 0x00 0xFD 0x0200 start [(0x200, 0xC9), (0x201, 0x41)]))
      (fun t => has t 0x40 0x00 0x00 0xFD 0x0202 0xA4 2) = true := by decide +kernel

/-- LG11: R239. -/
theorem test_LG11_bitAbsolute :
    after (step (machine 0x80 0x00 0x00 0xFD 0x0200 start [(0x300, 0x80), (0x200, 0x2C), (0x202, 0x03)]))
      (fun t => has t 0x80 0x00 0x00 0xFD 0x0203 0xA4 4) = true := by decide +kernel

/-- LG12: R240. -/
theorem test_LG12_incZeropage :
    after (step (machine 0x00 0x00 0x00 0xFD 0x0200 start [(0x010, 0xFF), (0x200, 0xE6), (0x201, 0x10)]))
      (fun t => has t 0x00 0x00 0x00 0xFD 0x0202 0x26 5 && t.bus.ram.read 0x010 == 0x00) = true := by decide +kernel

/-- LG15: R241, R180. -/
theorem test_LG15_decAbsoluteX :
    after (step (machine 0x00 0x01 0x00 0xFD 0x0200 start [(0x301, 0x01), (0x200, 0xDE), (0x202, 0x03)]))
      (fun t => has t 0x00 0x01 0x00 0xFD 0x0203 0x26 7 && t.bus.ram.read 0x301 == 0x00) = true := by decide +kernel

/-- LS4: R201, R177. -/
theorem test_LS4_ldaZeropageX :
    after (step (machine 0x00 0x20 0x00 0xFD 0x0200 start [(0x010, 0x44), (0x200, 0xB5), (0x201, 0xF0)]))
      (fun t => has t 0x44 0x20 0x00 0xFD 0x0202 0x24 4) = true := by decide +kernel

/-- LS9: R201, R182. -/
theorem test_LS9_ldaIndirectX :
    after (step (machine 0x00 0x01 0x00 0xFD 0x0200 start [(0x000, 0x03), (0x0FF, 0x34), (0x334, 0x99), (0x200, 0xA1),
      (0x201, 0xFE)]))
      (fun t => has t 0x99 0x01 0x00 0xFD 0x0202 0xA4 6) = true := by decide +kernel

/-- LS19: R205, R178. -/
theorem test_LS19_stxZeropageY :
    after (step (machine 0x00 0x12 0xF5 0xFD 0x0200 start [(0x200, 0x96), (0x201, 0x10)]))
      (fun t => has t 0x00 0x12 0xF5 0xFD 0x0202 0x24 4 && t.bus.ram.read 0x005 == 0x12) = true := by decide +kernel

/-- LS22: R208. -/
theorem test_LS22_tay :
    after (step (machine 0x00 0x00 0x05 0xFD 0x0200 start [(0x200, 0xA8)]))
      (fun t => has t 0x00 0x00 0x00 0xFD 0x0201 0x26 2) = true := by decide +kernel

/-- SH1: R261. -/
theorem test_SH1_aslAccumulator :
    after (step (machine 0x81 0x00 0x00 0xFD 0x0200 start [(0x200, 0x0A)]))
      (fun t => has t 0x02 0x00 0x00 0xFD 0x0201 0x25 2) = true := by decide +kernel

/-- SH12: R264, R180. -/
theorem test_SH12_rorAbsoluteX :
    after (step (machine 0x00 0x01 0x00 0xFD 0x0200 { start with c := true } [(0x300, 0x01), (0x200, 0x7E), (0x201, 0xFF),
      (0x202, 0x02)]))
      (fun t => has t 0x00 0x01 0x00 0xFD 0x0203 0xA5 7 && t.bus.ram.read 0x300 == 0x80) = true := by decide +kernel

/-- BR4: R291, R286. -/
theorem test_BR4_bcc :
    after (step (machine 0x00 0x00 0x00 0xFD 0x02F0 start [(0x2F0, 0x90), (0x2F1, 0x7F)]))
      (fun t => has t 0x00 0x00 0x00 0xFD 0x0371 0x24 4) = true := by decide +kernel

/-- BR10: R290, R286. -/
theorem test_BR10_bvs :
    after (step (machine 0x00 0x00 0x00 0xFD 0x0200 start [(0x200, 0x70), (0x201, 0x10)]))
      (fun t => has t 0x00 0x00 0x00 0xFD 0x0202 0x24 2) = true := by decide +kernel

/-- JP3: R281, R181. -/
theorem test_JP3_jmpIndirect :
    after (step (machine 0x00 0x00 0x00 0xFD 0x0400 start [(0x200, 0x12), (0x2FF, 0x34), (0x300, 0x56), (0x400, 0x6C),
      (0x401, 0xFF), (0x402, 0x02)]))
      (fun t => has t 0x00 0x00 0x00 0xFD 0x1234 0x24 5) = true := by decide +kernel

/-- JP4: R282. -/
theorem test_JP4_jsr :
    after (step (machine 0x00 0x00 0x00 0xFD 0x0200 start [(0x200, 0x20), (0x202, 0x03)]))
      (fun t => has t 0x00 0x00 0x00 0xFB 0x0300 0x24 6 && t.bus.ram.read 0x1FD == 0x02 &&
        t.bus.ram.read 0x1FC == 0x02) = true := by decide +kernel

/-- JP5: R283. -/
theorem test_JP5_rts :
    after (step (machine 0x00 0x00 0x00 0xFB 0x0200 start [(0x1FC, 0x02), (0x1FD, 0x02), (0x200, 0x60)]))
      (fun t => has t 0x00 0x00 0x00 0xFD 0x0203 0x24 6) = true := by decide +kernel

/-- JP7: R284. -/
theorem test_JP7_rti :
    after (step (machine 0x00 0x00 0x00 0xFA 0x0200 start [(0x1FB, 0xFF), (0x1FC, 0x34), (0x1FD, 0x12), (0x200, 0x40)]))
      (fun t => has t 0x00 0x00 0x00 0xFD 0x1234 0xEF 6) = true := by decide +kernel

/-- JP9: R285. -/
theorem test_JP9_brk :
    after (step (machine 0x00 0x00 0x00 0xFD 0x0200 { start with d := true, i := false, c := true } [(0x201, 0xEA)]))
      (fun t => has t 0x00 0x00 0x00 0xFA 0x0000 0x2D 7 && t.bus.ram.read 0x1FD == 0x02 && t.bus.ram.read 0x1FC == 0x02 &&
        t.bus.ram.read 0x1FB == 0x39) = true := by decide +kernel

/-- ST2: R313. -/
theorem test_ST2_php :
    after (step (machine 0x00 0x00 0x00 0xFD 0x0200 start [(0x200, 0x08)]))
      (fun t => has t 0x00 0x00 0x00 0xFC 0x0201 0x24 3 && t.bus.ram.read 0x1FD == 0x34) = true := by decide +kernel

/-- ST4: R312. -/
theorem test_ST4_pla :
    after (step (machine 0x00 0x00 0x00 0xFC 0x0200 start [(0x1FD, 0x80), (0x200, 0x68)]))
      (fun t => has t 0x80 0x00 0x00 0xFD 0x0201 0xA4 4) = true := by decide +kernel

/-- ST6: R314. -/
theorem test_ST6_plp :
    after (step (machine 0x00 0x00 0x00 0xFC 0x0200 start [(0x1FD, 0xFF), (0x200, 0x28)]))
      (fun t => has t 0x00 0x00 0x00 0xFD 0x0201 0xEF 4) = true := by decide +kernel

/-- ST8: R311, R104. -/
theorem test_ST8_pha :
    after (step (machine 0x11 0x00 0x00 0x00 0x0200 start [(0x200, 0x48)]))
      (fun t => has t 0x11 0x00 0x00 0xFF 0x0201 0x24 3 && t.bus.ram.read 0x100 == 0x11) = true := by decide +kernel

/-- UD1: R331. -/
theorem test_UD1_laxZeropage :
    after (step (machine 0x00 0x00 0x00 0xFD 0x0200 start [(0x010, 0x8F), (0x200, 0xA7), (0x201, 0x10)]))
      (fun t => has t 0x8F 0x8F 0x00 0xFD 0x0202 0xA4 3) = true := by decide +kernel

/-- UD5: R332, R182. -/
theorem test_UD5_saxIndirectX :
    after (step (machine 0xFF 0x02 0x00 0xFD 0x0200 start [(0x013, 0x03), (0x200, 0x83), (0x201, 0x10)]))
      (fun t => has t 0xFF 0x02 0x00 0xFD 0x0202 0x24 6 && t.bus.ram.read 0x300 == 0x02) = true := by decide +kernel

/-- UD9: R334, R180. -/
theorem test_UD9_isbAbsoluteX :
    after (step (machine 0x00 0x00 0x00 0xFD 0x0200 { start with c := true } [(0x300, 0xFF), (0x200, 0xFF), (0x202, 0x03)]))
      (fun t => has t 0x00 0x00 0x00 0xFD 0x0203 0x27 7 && t.bus.ram.read 0x300 == 0x00) = true := by decide +kernel

/-- UD13: R337. -/
theorem test_UD13_sreZeropage :
    after (step (machine 0x01 0x00 0x00 0xFD 0x0200 start [(0x010, 0x03), (0x200, 0x47), (0x201, 0x10)]))
      (fun t => has t 0x00 0x00 0x00 0xFD 0x0202 0x27 5 && t.bus.ram.read 0x010 == 0x01) = true := by decide +kernel

/-- UD15: R338, R183. -/
theorem test_UD15_rraIndirectY :
    after (step (machine 0x7F 0x00 0x01 0xFD 0x0200 { start with c := true } [(0x010, 0xFF), (0x011, 0x03), (0x200, 0x73),
      (0x201, 0x10)]))
      (fun t => has t 0xFF 0x00 0x01 0xFD 0x0202 0xA4 8 && t.bus.ram.read 0x400 == 0x80) = true := by decide +kernel

/-- UD18: R340. -/
theorem test_UD18_alrImmediate :
    after (step (machine 0xFF 0x00 0x00 0xFD 0x0200 start [(0x200, 0x4B), (0x201, 0x03)]))
      (fun t => has t 0x01 0x00 0x00 0xFD 0x0202 0x25 2) = true := by decide +kernel

/-- UD20: R341. -/
theorem test_UD20_arrImmediate :
    after (step (machine 0xFF 0x00 0x00 0xFD 0x0200 { start with c := true } [(0x200, 0x6B), (0x201, 0xFF)]))
      (fun t => has t 0xFF 0x00 0x00 0xFD 0x0202 0xA5 2) = true := by decide +kernel

/-- UD22: R341. -/
theorem test_UD22_arrImmediate :
    after (step (machine 0x80 0x00 0x00 0xFD 0x0200 start [(0x200, 0x6B), (0x201, 0xFF)]))
      (fun t => has t 0x40 0x00 0x00 0xFD 0x0202 0x65 2) = true := by decide +kernel

/-- UD25: R342. -/
theorem test_UD25_sbxImmediate :
    after (step (machine 0xFF 0x0F 0x00 0xFD 0x0200 start [(0x200, 0xCB), (0x201, 0x10)]))
      (fun t => has t 0xFF 0xFF 0x00 0xFD 0x0202 0xA4 2) = true := by decide +kernel

/-- UD28: R344. -/
theorem test_UD28_nop1A :
    after (step (machine 0x00 0x00 0x00 0xFD 0x0200 start [(0x200, 0x1A)]))
      (fun t => has t 0x00 0x00 0x00 0xFD 0x0201 0x24 2) = true := by decide +kernel

/-- UD31: R346. -/
theorem test_UD31_nopZeropageX14 :
    after (step (machine 0x00 0x01 0x00 0xFD 0x0200 start [(0x200, 0x14), (0x201, 0x10)]))
      (fun t => has t 0x00 0x01 0x00 0xFD 0x0202 0x24 4) = true := by decide +kernel

/-- UU1: R350. -/
theorem test_UU1_shaAbsoluteY :
    after (step (machine 0xFF 0xFF 0x01 0xFD 0x0200 start [(0x200, 0x9F), (0x202, 0x03)]))
      (fun t => has t 0xFF 0xFF 0x01 0xFD 0x0203 0x24 5 && t.bus.ram.read 0x301 == 0x04) = true := by decide +kernel

/-- UU2: R350, R183. -/
theorem test_UU2_shaIndirectY :
    after (step (machine 0xFF 0x0F 0x02 0xFD 0x0200 start [(0x011, 0x03), (0x200, 0x93), (0x201, 0x10)]))
      (fun t => has t 0xFF 0x0F 0x02 0xFD 0x0202 0x24 6 && t.bus.ram.read 0x302 == 0x04) = true := by decide +kernel

/-- UU5: R351. -/
theorem test_UU5_shxAbsoluteY :
    after (step (machine 0x00 0x05 0x20 0xFD 0x0200 start [(0x310, 0x77), (0x200, 0x9E), (0x201, 0xF0), (0x202, 0x02)]))
      (fun t => has t 0x00 0x05 0x20 0xFD 0x0203 0x24 5 && t.bus.ram.read 0x110 == 0x01 &&
        t.bus.ram.read 0x310 == 0x77) = true := by decide +kernel

/-- UU6: R353. -/
theorem test_UU6_tasAbsoluteY :
    after (step (machine 0xF0 0x3F 0x00 0xFD 0x0200 start [(0x300, 0xFF), (0x200, 0x9B), (0x202, 0x03)]))
      (fun t => has t 0xF0 0x3F 0x00 0x30 0x0203 0x24 5 && t.bus.ram.read 0x300 == 0x00) = true := by decide +kernel

/-- UU7: R354. -/
theorem test_UU7_lasAbsoluteY :
    after (step (machine 0x00 0x00 0x00 0xFD 0x0200 start [(0x300, 0x0F), (0x200, 0xBB), (0x202, 0x03)]))
      (fun t => has t 0x0D 0x0D 0x00 0x0D 0x0203 0x24 4) = true := by decide +kernel

/-- UU10: R365. -/
theorem test_UU10_jam02 :
    after (step (machine 0x00 0x00 0x00 0xFD 0x0200 start [(0x200, 0x02)]))
      (fun t => has t 0x00 0x00 0x00 0xFD 0x0200 0x24 0 && t.jammed) = true := by decide +kernel

/-! ### Devices, from 95_test_vectors.md part 3 -/

/-- BV1: RAM is mirrored (R93). -/
theorem test_BV1_mirrors :
    [0x0800#16, 0x1000#16, 0x1800#16].map (fun a => (memRead a (memWrite 0x0000 0x5A State.reset)).1) = [0x5A, 0x5A, 0x5A]
      := by decide

/-- PV5: 03 to 0x2000 gives `t = 0C00` (R381). -/
theorem test_PV5_ctrl_write :
    (memWrite 0x2000 0x03 State.reset).ppu.t = 0x0C00#15 ∧ (memWrite 0x2000 0x03 State.reset).ppu.ctrl = 0x03#8 := by decide

/-- The PPU at power-on with `v` and `t`. -/
def scrolled (v t : BitVec 15) : Ppu := { Ppu.powerOn with v := v, t := t }

/-- TV3: IncCoarseX (R404). -/
theorem test_TV3_incCoarseX :
    [0x001F#15, 0x041F#15, 0x001E#15].map (fun v => (scrolled v 0).incCoarseX.v) = [0x0400#15, 0x0000#15, 0x001F#15] := by decide

/-- TV4: IncY (R405). -/
theorem test_TV4_incY :
    [0x0000#15, 0x7000#15, 0x73A0#15, 0x7BA0#15, 0x73E0#15].map (fun v => (scrolled v 0).incY.v) =
      [0x1000#15, 0x0020#15, 0x0800#15, 0x0000#15, 0x0000#15] := by decide

/-- TV5, TV6: CopyX and CopyY (R406, R407). -/
theorem test_TV5_TV6_copies :
    (scrolled 0x7FFF 0).copyX.v = 0x7BE0#15 ∧ (scrolled 0 0x7FFF).copyX.v = 0x041F#15 ∧
      (scrolled 0x7FFF 0).copyY.v = 0x041F#15 ∧ (scrolled 0 0x7FFF).copyY.v = 0x7BE0#15 := by decide

/-- TV8: the attribute address and shift (R433). -/
theorem test_TV8_attribute :
    (attributeAddr 0x0C5, attributeShift 0x0C5) = (0x23C9, 4) ∧ (attributeAddr 0xFFF, attributeShift 0xFFF) = (0x2FFF, 6)
      := by decide

/-- TV9, TV10: the pixel nibbles of a tile row and of a sprite row (R436, R451). -/
theorem test_TV9_TV10_nibbles :
    packNibbles 2 0x01 0x81 leftToRight = 0x9888888B#32 ∧ packNibbles 0 0x0F 0xF0 leftToRight = 0x11112222#32 ∧
      packNibbles 0 0x0F 0xF0 rightToLeft = 0x22221111#32 ∧ packNibbles 3 0x0F 0xF0 leftToRight = 0xDDDDEEEE#32 := by decide

/-- TV9, TV10, of the statements' own row of pixels. -/
theorem test_TV9_TV10_tileRow :
    tileRow 2 0x01 0x81 (fun j => 7 - j) = 0x9888888B ∧ tileRow 0 0x0F 0xF0 (fun j => 7 - j) = 0x11112222 ∧
      tileRow 0 0x0F 0xF0 (fun j => j) = 0x22221111 ∧ tileRow 3 0x0F 0xF0 (fun j => 7 - j) = 0xDDDDEEEE := by decide

/-- TV11, TV12: the row of an 8x8 and of an 8x16 sprite, upright and flipped (R451, R452). -/
theorem test_TV11_TV12_spriteAddr :
    let p : Ppu := { Ppu.powerOn with ctrl := 0x08 }
    [p.spriteAddr 0x23 0x00 2 false, p.spriteAddr 0x23 0x80 2 false, p.spriteAddr 0x23 0x00 10 true, p.spriteAddr 0x23 0x80 10 true] =
      [0x1232, 0x1235, 0x1232, 0x1225] := by decide

/-- A sprite whose leftmost pixel is 6, at column 0. -/
def sixSprite (behind : Bool) : Sprite := { pattern := 0x60000000, sx := 0, behind := behind, index := 0 }

/-- TV14: an opaque background pixel 9 under a sprite pixel 6 (R460, R464). -/
theorem test_TV14_compositing :
    Machine.pixelIndex 9 (some (sixSprite false)) 0 = 0x16 ∧ Machine.pixelIndex 9 (some (sixSprite true)) 0 = 0x09 ∧
      spriteZeroHit 9 (some (sixSprite false)) = true ∧ spriteZeroHit 9 (some (sixSprite true)) = true ∧
      spriteZeroHit 8 (some (sixSprite false)) = false := by decide

/-- TV16: the background pixel by fine X (R461). -/
theorem test_TV16_bgPixel :
    [0#3, 3#3, 7#3].map (fun x => ({ Ppu.powerOn with bgShift := 0x1234567800000000, fineX := x, mask := 0x08 } : Ppu).bgPixel) =
      [1, 4, 8] := by decide

/-- MV1: a 16 KB NROM image shows twice (R490). -/
theorem test_MV1_nrom_mirror :
    let c : Cart := { Cart.blank with prg := [(5, 0x7E)], prgLen := 16384 }
    c.cpuRead 0x8005 = 0x7E ∧ c.cpuRead 0xC005 = 0x7E := by decide

/-- MV6: five serial writes after a discard commit the PRG bank (R501, R502). -/
theorem test_MV6_mmc1_serial :
    let c : Cart := { Cart.blank with mapper := .mmc1 Mmc1.powerOn }
    let d := [(0x8000, 0x01#8), (0x8000, 0x01#8), (0x8000, 0x80#8), (0xE000, 0x01#8), (0xE000, 0x01#8), (0xE000, 0x00#8),
      (0xE000, 0x00#8), (0xE000, 0x00#8)].foldl (fun c (w : Nat × Byte) => c.cpuWrite w.1 w.2) c
    d.mapper = .mmc1 { Mmc1.powerOn with prgBank := 3 } := by decide

/-- NV5: `ServiceInterrupt(FFFA)` (R550). -/
theorem test_NV5_service :
    let s := machine 0 0 0 0xFD 0x8123 { start with i := false, n := true, c := true } []
    let t := serviceInterrupt 0xFFFA (s.setCart { s.cart with prg := [(0x7FFB, 0x90)] })
    (t.bus.ram, t.cpu.sp, t.cpu.pc, t.cpu.p.i) = ([(0x1FB, 0xA1), (0x1FC, 0x23), (0x1FD, 0x81)], 0xFA, 0x9000, true) := by decide

/-! ### Witnesses: states and operands that meet the hypotheses of each statement -/

/-- A state in the middle of a run: registers, RAM, battery RAM and OAM hold data. -/
def sample : State :=
  { State.reset with
    cpu := { a := 0x12, x := 0x03, y := 0x04, sp := 0xFC, pc := 0x0200, p := { start with i := false, c := true } }
    cycles := 1001
    bus := { ram := [(0x10, 0x80), (0x11, 0x03), (0x200, 0xEA)], latch := 0x5A, latchAge := 2 }
    ppu := { Ppu.powerOn with scanline := 242, cycle := 7, oam := [(0, 50), (3, 9)], v := 0x2345, ctrl := 0x80, vblank := true }
    cart := { Cart.blank with sram := [(0, 0x77)], prg := [(0x7FFB, 0x90)] } }

theorem blank_frame : Frame.ok Frame.blank = true := by decide +kernel

/-- `sample` has the invariant, and keeps it under other registers, coordinators and fields of the PPU that hold no storage. -/
theorem sample_inv : sample.Inv where
  ram := by decide
  nmiDelay := trivial
  ppu := { scanline := by decide, cycle := by decide, oam := by decide, palette := by decide, vram := by decide,
           sprites := { length := by decide, count := by decide, index := by decide }, back := blank_frame, front := blank_frame }
  cart := { prgLen := by decide, chrLen := by decide, prg := by decide, chr := by decide, sram := by decide, mapper := trivial }
  decay := by decide

/-- `sample` with another request in the interrupt slot, another delay and another stall. -/
def waiting (pending : PendingInterrupt) (delay : NmiDelay) (stall : Nat) : State :=
  { sample with irq := { pending := pending, nmiDelay := delay, stall := stall } }

/-- `sample` with the PPU at another position, with another `v`, `w` and vblank flag. -/
def beam (scanline cycle : Nat) (v : BitVec 15) (w : Bool) (vblank : Bool) : State :=
  { sample with ppu := { sample.ppu with scanline := scanline, cycle := cycle, v := v, w := w, vblank := vblank } }

theorem beam_inv (scanline cycle : Nat) (v : BitVec 15) (w vblank : Bool) (h1 : scanline ≤ 261) (h2 : cycle ≤ 340) :
    (beam scanline cycle v w vblank).Inv :=
  { sample_inv with ppu := { sample_inv.ppu with scanline := h1, cycle := h2, sprites := { sample_inv.ppu.sprites with } } }

/-! The addresses a plain load, store or modification reaches: the ends of RAM and of battery RAM. -/

/-- LDA, ADC, SBC, logic, compares, BIT, LDX, LDY, NOP reads, LAX, LAS: `plainSite` of each mode's address. -/
theorem witness_reads_plain :
    plainSite (zeropage 0xFF) = some (.ram 0xFF) ∧ plainSite (zeropageIndexed 0xFF sample.cpu.x) = some (.ram 0x02) ∧
      plainSite 0x1FFF = some (.ram 0x7FF) ∧ plainSite 0x6000 = some (.sram 0) ∧ plainSite 0x7FFF = some (.sram 0x1FFF) ∧
      plainSite (indexNormal 0x7FFC sample.cpu.x sample).1.ea = some (.sram 0x1FFF) ∧
      plainSite (indirectX 0x0D sample).1 = some (.ram 0x380) ∧
      plainSite (indirectYNormal 0x10 sample).1.ea = some (.ram 0x384) := by decide

/-- STA, STX, STY, SAX: the invariant, and an address in RAM and in battery RAM for the forms. -/
theorem witness_StaStoresA :
    sample.Inv ∧ plainSite (zeropage 0x00) = some (.ram 0) ∧
      plainSite (indexForced 0x7FFB sample.cpu.y sample).1.ea = some (.sram 0x1FFF) ∧
      plainSite (indirectX 0x0D sample).1 = some (.ram 0x380) ∧
        plainSite (indirectYForced 0x10 sample).1.ea = some (.ram 0x384) :=
  ⟨sample_inv, by decide⟩

theorem witness_StxStySaxStore :
    sample.Inv ∧ plainSite (zeropageIndexed 0xFF sample.cpu.y) = some (.ram 0x03) ∧ plainSite 0x6000 = some (.sram 0) ∧
      plainSite (indirectX 0x0D sample).1 = some (.ram 0x380) := ⟨sample_inv, by decide⟩

/-- INC, DEC, the shifts and the undocumented modifications. -/
theorem witness_IncDecMemory :
    sample.Inv ∧ plainSite (zeropageIndexed 0xFD sample.cpu.x) = some (.ram 0x00) ∧
      plainSite (indexForced 0x1FFC sample.cpu.x sample).1.ea = some (.ram 0x7FF) := ⟨sample_inv, by decide⟩

theorem witness_ShiftsAndRotates :
    sample.Inv ∧ plainSite (zeropage 0x10) = some (.ram 0x10) ∧ plainSite 0x7FFF = some (.sram 0x1FFF) := ⟨sample_inv, by decide⟩

theorem witness_DcpIsbCombine :
    sample.Inv ∧ plainSite (indirectYForced 0x10 sample).1.ea = some (.ram 0x384) ∧
      plainSite (indexForced 0x5FFC sample.cpu.y sample).1.ea = some (.sram 0) := ⟨sample_inv, by decide⟩

theorem witness_ShiftCombinations :
    sample.Inv ∧ plainSite (indirectX 0x0D sample).1 = some (.ram 0x380) ∧
      plainSite (indexForced 0x5FFC sample.cpu.y sample).1.ea = some (.sram 0) := ⟨sample_inv, by decide⟩

/-- SHA, SHX, SHY, TAS: both clauses, a page crossed and not, and the invariant. -/
theorem witness_UnstableStores :
    sample.Inv ∧ (indexForced 0x02FF sample.cpu.y sample).1.crossed = true ∧
      (indexForced 0x0200 sample.cpu.x sample).1.crossed = false ∧
      (indirectYForced 0x10 sample).1.crossed = false ∧ plainSite (pair 0x01 0x03) = some (.ram 0x103) := ⟨sample_inv, by decide⟩

theorem witness_JsrPushesReturn : sample.Inv := sample_inv
theorem witness_BrkEnters : sample.Inv := sample_inv
theorem witness_PushInstructions : sample.Inv := sample_inv
theorem witness_StackRoundTrip : sample.Inv ∧ { sample with cpu := { sample.cpu with sp := 0x00 } }.Inv ∧
    { sample with cpu := { sample.cpu with sp := 0xFF } }.Inv := ⟨sample_inv, { sample_inv with }, { sample_inv with }⟩

/-- Branches: taken to the same page, taken to another page, and not taken. -/
theorem witness_BranchesTaken :
    sample.cpu.p.c = true ∧ (BitVec.ofInt 16 (0x0202 + (0x7F#8).toInt)).toNat / 256 = 2 ∧
      (BitVec.ofInt 16 (0x0202 + (0x80#8).toInt)).toNat / 256 = 1 ∧ sample.cpu.p.z = false := by decide

theorem witness_NopsDoNothing :
    Instr.nopFA ∈ [Instr.nop, .nop1A, .nop3A, .nop5A, .nop7A, .nopDA, .nopFA] := by decide

theorem witness_JamJams :
    Instr.jamF2 ∈ [Instr.jam02, .jam12, .jam22, .jam32, .jam42, .jam52, .jam62, .jam72, .jam92, .jamB2, .jamD2, .jamF2]
      := by decide

/-- A page crossed and a page not crossed, indexed and through a pointer (R180, R183). -/
theorem witness_EffectiveAddresses :
    decide ((BitVec.ofNat 16 (0xFFFF + 1)).toNat / 256 ≠ 0xFFFF / 256) = true ∧
      decide ((BitVec.ofNat 16 (0x02FE + 1)).toNat / 256 ≠ 0x02FE / 256) = false ∧
      (indirectYNormal 0x10 sample).1.crossed = false ∧
      (indirectYNormal 0x10 { sample with cpu := { sample.cpu with y := 0x80 } }).1.crossed = true := by decide

theorem sample_ready : Ready sample := ⟨rfl, rfl, rfl⟩

/-- One byte in RAM, and three bytes that wrap around the address space: PC at 0xFFFF reads the last byte of PRG, then RAM. -/
theorem witness_StepRunsDecodedInstruction :
    (Ready sample ∧ sample.irq.pending = .none ∧ decode (fetchBytes 1 sample.cpu.pc (sample.setFrameReady false)).1
      = .ok (.nop, [])) ∧
      (let s := { sample with cpu := { sample.cpu with pc := 0xFFFF }, bus := { sample.bus with ram := [(0, 0x34), (1, 0x12)] },
                              cart := { sample.cart with prg := [(0x7FFF, 0x4C)] } }
       Ready s ∧ s.irq.pending = .none ∧ decode (fetchBytes 3 s.cpu.pc (s.setFrameReady false)).1
         = .ok (.jmpAbsolute 0x1234, [])) :=
  ⟨⟨sample_ready, rfl, rfl⟩, ⟨rfl, rfl, rfl⟩, rfl, rfl⟩

/-- The clauses: I clear; I set, with the instruction at PC; I set, with a stall. -/
theorem witness_IrqMaskedOrServiced :
    (Ready (waiting .irq .none 0) ∧ (waiting .irq .none 0).irq.pending = .irq ∧ (waiting .irq .none 0).cpu.p.i = false) ∧
      (let s := { waiting .irq .none 0 with cpu := { sample.cpu with p := start } }
       Ready s ∧ s.irq.pending = .irq ∧ s.cpu.p.i = true ∧
         decode (fetchBytes 1 s.cpu.pc (clearPending (s.setFrameReady false))).1 = .ok (.nop, [])) ∧
      (let s := { waiting .irq .none 514 with cpu := { sample.cpu with p := start } }
       s.started = true ∧ s.jammed = false ∧ s.irq.pending = .irq ∧ s.cpu.p.i = true) ∧ sample.Inv :=
  ⟨⟨⟨rfl, rfl, rfl⟩, rfl, rfl⟩, ⟨⟨rfl, rfl, rfl⟩, rfl, rfl, rfl⟩, ⟨rfl, rfl, rfl, rfl⟩, sample_inv⟩

theorem witness_NmiServiced :
    Ready (waiting .nmi .none 0) ∧ (waiting .nmi .none 0).irq.pending = .nmi ∧ (waiting .nmi .none 0).Inv :=
  ⟨⟨rfl, rfl, rfl⟩, rfl, { sample_inv with nmiDelay := trivial }⟩

theorem witness_StallConsumedFirst :
    (waiting .none .none 514).started = true ∧ (waiting .none .none 514).jammed = false ∧
      0 < (waiting .none .none 514).irq.stall := by decide

/-- A jammed machine; a machine constructed and not yet reset. -/
theorem witness_JammedAndUnstartedSteps :
    ((sample.setJammed true).started = true ∧ (sample.setJammed true).jammed = true) ∧
      (powerOn true { ram := [], vram := [], oam := [], palette := [], openBusDecay := 29782 } Cart.blank).started = false
        := by decide

theorem witness_StartedMachineRunsForever : sample.started = true := rfl

theorem witness_StepKeepsInv : sample.Inv ∧ after (step sample) (fun _ => true) = true := ⟨sample_inv, by decide +kernel⟩

/-- A cartridge as the loader hands it over. -/
def cartridge (mapper prgLen chrLen : Nat) (m : HeaderMirroring) : Cartridge :=
  { prg := [(0, 0xEA)], prgLen := prgLen, chr := [(0, 0x01)], chrLen := chrLen, sram := [], mirroring := m, mapperNumber := mapper }

/-- Memories at power-on. -/
def launch : Launch := 
  { ram := [(0x7FF, 1)], vram := [(0x7FF, 2)], oam := [(0xFF, 3)], palette := [(0x1F, 4)], openBusDecay := 29782 }

/-- A construction that succeeds, with and without CHR data, and its memories of the right size; the four reasons for a refusal. -/
theorem witness_ConstructionRefusesOrInv :
    (∃ s, construct true launch (cartridge 4 16384 8192 .vertical) = .ok s) ∧
      (∃ s, construct true launch (cartridge 7 32768 0 .horizontal) = .ok s) ∧
      (Memory.ok 2048 launch.ram = true ∧ Memory.ok 2048 launch.vram = true ∧ Memory.ok 256 launch.oam = true ∧
        Memory.ok 32 launch.palette = true ∧ Memory.ok 16384 (cartridge 4 16384 8192 .vertical).prg = true ∧
        Memory.ok (if (cartridge 4 16384 8192 .vertical).chrLen = 0 then 8192 else 8192) (cartridge 4 16384 8192 .vertical).chr = true ∧
        Memory.ok 8192 (cartridge 4 16384 8192 .vertical).sram = true) ∧
      (construct true launch (cartridge 5 16384 8192 .vertical) = .error (.unsupportedMapper 5) ∧
        construct true launch (cartridge 0 16384 8192 .fourScreen) = .error .fourScreen ∧
        construct true launch (cartridge 0 8192 8192 .vertical) = .error (.badPrgLength 8192) ∧
        construct true launch (cartridge 0 16384 4096 .vertical) = .error (.badChrLength 4096)) :=
  ⟨⟨_, rfl⟩, ⟨_, rfl⟩, by decide, rfl, rfl, rfl, rfl⟩

/-- Bytes that decode, with a byte left over, and bytes that are too few. -/
theorem witness_EncodeDecodeAgree :
    decode [0x4C#8, 0x34#8, 0x12#8, 0xFF#8] = .ok (.jmpAbsolute 0x1234, [0xFF#8]) ∧ decode [0x4C#8, 0x34#8]
      = .error (.missingOperand 0x4C) := ⟨rfl, rfl⟩

/-- The same cell under two addresses, and two cells, at the ends of the window. -/
theorem witness_RamIsMirrored :
    sample.Inv ∧ (0x1FFF#16).toNat < 0x2000 ∧ (0x07FF#16).toNat < 0x2000 ∧ (0x1FFF#16).toNat % 0x800 = (0x07FF#16).toNat % 0x800 ∧
      (0x1FFF#16).toNat % 0x800 ≠ (0x1FFE#16).toNat % 0x800 := ⟨sample_inv, by decide⟩

/-- Each range at its ends, the addresses outside the map among them, and the latch before and after its decay; the external port with
an answer queued and with none. -/
theorem witness_OpenBusReads :
    ([0x2000#16, 0x2001#16, 0x2003#16, 0x2005#16, 0x2006#16, 0x3FFE#16].all fun a =>
        decide (0x2000 ≤ a.toNat) && decide (a.toNat < 0x4000) && decide (a.toNat % 8 ∈ [0, 1, 3, 5, 6])) = true ∧
      (0x4018 ≤ (0x4018#16).toNat ∧ (0x401F#16).toNat < 0x4020) ∧ (0x4014#16).toNat = 0x4014 ∧ (0x4020 ≤ (0x4020#16).toNat ∧ (0x4020#16).toNat < 0x6000) ∧ (0x4020 ≤ (0x5FFF#16).toNat ∧
        (0x5FFF#16).toNat < 0x6000) ∧
      ((0x2002#16).toNat % 8 = 2 ∧ (0x3FFA#16).toNat % 8 = 2) ∧ sample.bus.latchAge < sample.openBusDecay ∧
      ¬ ({ sample with openBusDecay := 2 } : State).bus.latchAge < ({ sample with openBusDecay := 2 } : State).openBusDecay ∧
      ([0x4000#16, 0x4013#16, 0x4015#16, 0x4017#16].all fun a =>
        decide ((0x4000 ≤ a.toNat ∧ a.toNat < 0x4014) ∨ (0x4015 ≤ a.toNat ∧ a.toNat < 0x4018))) = true ∧
      sample.io.answers = [] ∧
      ({ sample with io := { answers := [0x41], reads := 0, log := [] } } : State).io.answers = 0x41#8 :: [] := by decide

/-- The ends of the two ranges of pages, the last offset, and both parities of `cycles`. -/
theorem witness_OamDmaCopiesPage :
    sample.Inv ∧ (0x1F#8).toNat < 0x20 ∧ 0x60 ≤ (0x60#8).toNat ∧ 255 < 256 ∧ sample.cycles % 2 = 1 ∧ State.reset.cycles % 2 = 1 ∧
      ({ sample with cycles := 1000 } : State).cycles % 2 = 0 := ⟨sample_inv, by decide⟩

theorem witness_TickMovesPosition :
    (beam 261 340 0 false false).Inv ∧
      ((beam 261 340 0 false false).ppu.scanline = 261 ∧ (beam 261 340 0 false false).ppu.cycle = 340) ∧
      ¬ ((beam 261 339 0 false false).ppu.scanline = 261 ∧ (beam 261 339 0 false false).ppu.cycle = 340) :=
  ⟨beam_inv 261 340 0 false false (by decide) (by decide), by decide⟩

/-- Both ends of the window; a pending delay with the vblank flag set and clear, and no delay. -/
theorem witness_StatusReadEffects :
    (0x2000 ≤ (0x2002#16).toNat ∧ (0x2002#16).toNat < 0x4000 ∧ (0x2002#16).toNat % 8 = 2) ∧
      (0x2000 ≤ (0x3FFA#16).toNat ∧ (0x3FFA#16).toNat < 0x4000 ∧ (0x3FFA#16).toNat % 8 = 2) ∧
      ((waiting .none (.delayed 14) 0).irq.nmiDelay = .delayed 14 ∧ (waiting .none (.delayed 14) 0).ppu.vblank = true) ∧
      (beam 0 0 0 true false).ppu.vblank = false ∧ sample.irq.nmiDelay = .none := by decide

/-- Each register at its first and its last address. -/
theorem witness_ScrollAndAddressPort :
    ([0, 1, 2, 3, 4, 5, 6].all fun r =>
        decide ((0x2000#16 + BitVec.ofNat 16 r).toNat % 8 = r) && decide ((0x3FF8#16 + BitVec.ofNat 16 r).toNat % 8 = r) &&
          decide ((0x3FF8#16 + BitVec.ofNat 16 r).toNat < 0x4000)) = true ∧
      (beam 0 0 0 false false).ppu.w = false ∧ (beam 0 0 0 true false).ppu.w = true := by decide

/-- The rising edge of the NMI enable: in vblank, out of it with a cancellation and without one; and no edge (R547, D25). -/
theorem witness_ScrollAndAddressPort_edge :
    let off : Bool → NmiDelay → State := fun vb d =>
      { sample with ppu := { sample.ppu with ctrl := 0x7F, vblank := vb }, irq := { sample.irq with nmiDelay := d } }
    edgeDelay (off true .canceled) 0x80 = .delayed 14 ∧ edgeDelay (off false .canceled) 0x80 = .none ∧
      edgeDelay (off false (.delayed 3)) 0xFF = .delayed 3 ∧ edgeDelay (off true (.delayed 3)) 0x7F = .delayed 3 ∧
      edgeDelay (waiting .none .canceled 0) 0x80 = .canceled := by decide

/-- The three targets at their ends, with CHR-RAM and with CHR ROM. -/
theorem witness_DataPortAccess :
    ((0x2007#16).toNat % 8 = 7 ∧ (0x3FFF#16).toNat % 8 = 7 ∧ (0x3FFF#16).toNat < 0x4000) ∧
      dataPortSites (beam 0 0 0x1FFF false false) = [.chr 0x1FFF] ∧ dataPortSites (beam 0 0 0x2000 false false) = [.vram 0] ∧
      dataPortSites (beam 0 0 0x3EFF false false) = [.vram 0x6FF] ∧ dataPortSites (beam 0 0 0x3F00 false false) = [.palette 0] ∧
      dataPortSites (beam 0 0 0x7FFF false false) = [.palette 0x1F] ∧
      dataPortSites { beam 0 0 0x1FFF false false with cart := { Cart.blank with chrIsRam := false } } = [] := by decide

theorem witness_DataPortAccess_inv : (beam 0 0 0x3F00 false false).Inv := beam_inv 0 0 0x3F00 false false (by decide) (by decide)

/-- The first and the last nametable address, and the palette entries beside each alias (R124, R125). -/
theorem witness_DataPortAccess_indexes :
    (3 < 4 ∧ 0x3FF < 0x400 ∧ 0x2000 + 0x400 * 3 + 0x3FF = 0x2FFF) ∧ (0x2FF < 0x300 ∧ 0x3000 + 0x400 * 3 + 0x2FF = 0x3EFF) ∧
      (0x3F00 + 32 * 7 + 31 = 0x3FFF) ∧ ntIndex .horizontal 0x2800 = 0x400 ∧ ntIndex .vertical 0x2BFF = 0x3FF ∧
      ntIndex .single1 0x3EFF = 0x6FF ∧ palIndex 0x3F10 = 0 ∧ palIndex 0x3F11 = 0x11 ∧ palIndex 0x3FFC = 0x0C := by decide

/-- The three positions, and the NMI cases at the first. -/
theorem witness_PpuCycleEvents :
    ((beam 241 1 0 false false).ppu.scanline = 241 ∧ (beam 241 1 0 false false).ppu.cycle = 1 ∧
        (beam 241 1 0 false false).ppu.ctrlNmiEnable = true ∧ (beam 241 1 0 false false).irq.nmiDelay ≠ .canceled) ∧
      ((beam 261 1 0 false true).ppu.scanline = 261 ∧ (beam 261 1 0 false true).ppu.cycle = 1) ∧
      ¬ ((beam 0 0 0 false true).ppu.scanline = 241 ∧ (beam 0 0 0 false true).ppu.cycle = 1) ∧
      ¬ ((beam 0 0 0 false true).ppu.scanline = 261 ∧ (beam 0 0 0 false true).ppu.cycle = 1) := by decide

/-- Positions that render, at both ends of each span of fetches and beside it; the same position with rendering disabled and on a line
that is not rendered (R371, R376, R437). -/
def lit (mask : Byte) (scanline cycle : Nat) : State :=
  { sample with ppu := { sample.ppu with mask := mask, scanline := scanline, cycle := cycle } }

theorem witness_positions :
    ([0, 1, 256, 257, 320, 321, 336, 337].map fun c => fetching (lit 0x08 239 c)) =
        [false, true, true, false, false, true, true, false] ∧
      rendering (lit 0x10 261 257) = true ∧ rendering (lit 0x18 239 257) = true ∧ rendering (lit 0xE7 0 257) = false ∧
      rendering (lit 0x18 240 257) = false ∧ fetching (lit 0x18 260 1) = false := by decide

/-- The position after the vblank start with the delay it schedules; the vblank start as the first position no longer reached, and
the pre-render clear among those reached. -/
theorem witness_NmiDelayRunsOut :
    (let s := { beam 241 2 0 false true with irq := { pending := .none, nmiDelay := .delayed 14, stall := 0 } }
     s.irq.nmiDelay = .delayed 14 ∧ ∀ j < 3 * 14, (position s + j) % (341 * 262) ≠ vblankStart) ∧
      (let s := { beam 240 339 0 false true with irq := { pending := .irq, nmiDelay := .delayed 1, stall := 0 } }
       s.irq.nmiDelay = .delayed 1 ∧ (∀ j < 3 * 1, (position s + j) % (341 * 262) ≠ vblankStart) ∧
         (position s + 3) % (341 * 262) = vblankStart) ∧
      (let s := { beam 260 340 0 false true with irq := { pending := .none, nmiDelay := .delayed 14, stall := 0 } }
       s.irq.nmiDelay = .delayed 14 ∧ ∀ j < 3 * 14, (position s + j) % (341 * 262) ≠ vblankStart) := by decide

theorem witness_NmiDelayRunsOut_inv :
    { beam 241 2 0 false true with irq := { pending := .none, nmiDelay := .delayed 14, stall := 0 } }.Inv :=
  { beam_inv 241 2 0 false true (by decide) (by decide) with nmiDelay := Nat.le_refl 14 }

/-- With OAM clear, all 64 sprites are in range on line 0: the first and the last slot are filled. -/
theorem witness_SpriteEvaluation :
    (inRange Ppu.powerOn 0)[0]? = some 0 ∧ (inRange Ppu.powerOn 0)[7]? = some 7 ∧ 7 < 8 := by decide

theorem witness_SpriteEvaluation_inv : SpriteCacheInv Ppu.powerOn :=
  { length := by decide, count := by decide, index := by decide }

/-- The last pixel, and another. -/
theorem witness_PixelComposited : Frame.ok sample.ppu.back = true ∧ 255 < 256 ∧ 239 < 240 ∧ (255, 238) ≠ (255, 239) :=
  ⟨blank_frame, by decide⟩

/-- A cartridge with 256 KB of PRG and this mapper has the invariant. -/
theorem big_cart_inv (m : Mapper) (h : MapperInv m) : CartInv { Cart.blank with prgLen := 0x40000, mapper := m } :=
  { prgLen := (by decide : 0 < 0x40000 ∧ 0x40000 % Config.prgPage = 0)
    chrLen := (by decide : 0 < 8192 ∧ 8192 % Config.chrPage = 0)
    prg := rfl, chr := rfl, sram := rfl, mapper := h }

/-- The four kinds of cartridge, and both ends of the window. -/
theorem witness_VectorWindowFixed :
    CartInv { Cart.blank with prgLen := 0x40000, mapper := .uxrom 255 } ∧
      (CartInv { Cart.blank with prgLen := 0x40000, mapper := .mmc1 Mmc1.powerOn } ∧ Mmc1.powerOn.control.toNat / 4 % 4 = 3) ∧
      CartInv { Cart.blank with prgLen := 0x40000, mapper := .mmc3 Mmc3.powerOn } ∧
      (CartInv Cart.blank ∧ Cart.blank.mapper = .nrom ∧ Cart.blank.prgLen ≤ 0x8000) ∧ 0xE000 ≤ 0xFFFF ∧ 0xFFFF < 0x10000 :=
  ⟨big_cart_inv _ (by decide : (255 : Nat) < 256), ⟨big_cart_inv _ (by constructor <;> decide), by decide⟩,
    big_cart_inv _ (by decide : Mmc3.powerOn.bankReg.length = 8),
    ⟨{ prgLen := by decide, chrLen := by decide, prg := by decide, chr := by decide, sram
      := by decide, mapper := trivial }, by decide⟩,
    by decide⟩

/-- The windows: CNROM, AxROM with a whole bank and with 16 KB. -/
theorem witness_VectorWindowFixed_windows :
    CartInv { Cart.blank with prgLen := 0x40000, mapper := .cnrom 255 } ∧
      (CartInv { Cart.blank with prgLen := 0x40000, mapper := .axrom 7 } ∧ 0x8000 ≤ 0x40000) ∧
      (CartInv { Cart.blank with prgLen := 0x4000, mapper := .axrom 7 } ∧ 0x4000 < 0x8000) :=
  ⟨big_cart_inv _ (by decide : (255 : Nat) < 256), ⟨big_cart_inv _ (by decide : (7 : Nat) < 8), by decide⟩,
    ⟨{ prgLen := by decide, chrLen := by decide, prg := by decide, chr := by decide, sram
      := by decide, mapper := (by decide : (7 : Nat) < 8) }, by decide⟩⟩

/-- R510, R522, R523: offsets in a 256 KB image and CHR bank numbers, by hand from the tables, in each mode. -/
theorem test_mapper_offsets :
    ([0x00#5, 0x04#5, 0x08#5, 0x0C#5].map fun k =>
        let m := { Mmc1.powerOn with control := k, prgBank := 5 }
        (m.prgOffset 0x40000 0x8000, m.prgOffset 0x40000 0xC001)) =
      [(0x10000, 0x14001), (0x10000, 0x14001), (0x00000, 0x14001), (0x14000, 0x3C001)] ∧
    ([false, true].map fun mode =>
        let m := { Mmc3.powerOn with prgMode := mode, chrMode := mode, bankReg := [5, 9, 10, 11, 12, 13, 3, 4] }
        [m.prgOffset 0x40000 0x8000, m.prgOffset 0x40000 0xA000, m.prgOffset 0x40000 0xC000, m.prgOffset 0x40000 0xE000,
         m.chrOffset 0x20000 0x0400, m.chrOffset 0x20000 0x1C00]) =
      [[0x06000, 0x08000, 0x3C000, 0x3E000, 0x1400, 0x3400], [0x3C000, 0x08000, 0x06000, 0x3E000, 0x2C00, 0x2400]] := by decide

/-- The ends of the two ranges of addresses that reach the mapper. -/
theorem witness_VectorWindowFixed_reached :
    (0x6000 ≤ (0x6000#16).toNat ∧ 0x6000 ≤ (0xFFFF#16).toNat) ∧ (0x4020 ≤ (0x4020#16).toNat ∧ 0x4020 ≤ (0xFFFF#16).toNat) := by decide

/-- Nothing collected, the ends of the four ranges of the fifth address, and the ends of the two kinds of byte. -/
theorem witness_Mmc1SerialWrites :
    CartInv { Cart.blank with prgLen := 0x40000, mapper := .mmc1 Mmc1.powerOn } ∧ Mmc1.powerOn.shiftCount = 0 ∧
      (0x8000 < 0xA000 ∧ ¬ 0xA000 < 0xA000 ∧ 0xBFFF < 0xC000 ∧ ¬ 0xC000 < 0xC000 ∧ 0xDFFF < 0xE000 ∧ ¬ 0xE000 < 0xE000) ∧
      (0x7F#8).toNat < 128 ∧ 128 ≤ (0x80#8).toNat := ⟨big_cart_inv _ (by constructor <;> decide), by decide⟩

/-- The smallest and the largest latch; an MMC3 cartridge; a clocked position with rendering on. -/
theorem witness_Mmc3CounterAsserts :
    (let m := { Mmc3.powerOn with irqEnable := true, irqLatch := 255 }
     m.irqCounter = 0 ∧ m.irqLine = false ∧ m.irqEnable = true ∧ 255 ≤ m.irqLatch.toNat) ∧
      (let m := { Mmc3.powerOn with irqEnable := true }
       m.irqCounter = 0 ∧ m.irqLine = false ∧ m.irqEnable = true ∧ 0 ≤ m.irqLatch.toNat) ∧
      ({ Cart.blank with mapper := .mmc3 Mmc3.powerOn } : Cart).mapper = .mmc3 Mmc3.powerOn ∧
      (let p := { sample.ppu with scanline := 261, cycle := 280, mask := 0x08 }
       p.cycle = 280 ∧ (p.scanline ≤ 239 ∨ p.scanline = 261) ∧ p.mask.toNat / 8 % 4 ≠ 0) := by decide

/-- A line asserted, with I set and an empty slot. -/
def lineAsserted : State :=
  { sample with cpu := { sample.cpu with p := start }
                cart := { Cart.blank with mapper := .mmc3 { Mmc3.powerOn with irqLine := true } } }

/-- The slot after one CPU cycle: a delay at its end, an asserted line with the slot empty (although I is set) and filled, and no line
asserted (R111, R542, R546). -/
theorem test_slot_filled :
    (tickOne (waiting .none (.delayed 1) 0)).irq.pending = .nmi ∧ lineAsserted.cpu.p.i = true ∧
      (tickOne lineAsserted).irq.pending = .irq ∧
      (tickOne { lineAsserted with irq := { lineAsserted.irq with pending := .nmi } }).irq.pending = .nmi ∧
      (tickOne sample).irq.pending = .none := by decide +kernel

end Sys2Proof.Tests
end

section
/-! Proofs about the bus (20_memory.md): RAM under its four images. -/

namespace Sys2Proof.Machine

/-- The RAM of a state with the invariant is in canonical form. -/
theorem State.Inv.ram_wf {s : State} (h : s.Inv) : s.bus.ram.wf = true := by
  have hok := h.ram
  unfold Memory.ok at hok
  exact (Bool.and_eq_true_iff.mp hok).1

/-- A read below 0x2000 answers the byte at the masked address (R93). -/
theorem memRead_ram_byte (addr : Word) (s : State) (h : addr.toNat < 0x2000) :
    (memRead addr s).1 = s.bus.ram.read (addr.toNat % 0x800) := by
  rw [memRead_ram addr s h]

/-- A write below 0x2000 leaves RAM with the one byte at the masked address written (R93). -/
theorem memWrite_ram_array (addr : Word) (v : Byte) (s : State) (h : addr.toNat < 0x2000) :
    (memWrite addr v s).bus.ram = s.bus.ram.write (addr.toNat % 0x800) v := by
  rw [memWrite_ram addr v s h]
  rfl

/-- Settles O45: both accesses go to the masked address of one array, so the law of a read after a write of that array decides. -/
theorem ramIsMirrored : Obligations.RamIsMirrored := by
  intro s a b v hInv ha hb
  calc (memRead b (memWrite a v s)).1
      = (s.bus.ram.write (a.toNat % 0x800) v).read (b.toNat % 0x800) := by
        rw [memRead_ram_byte b _ hb, memWrite_ram_array a v s ha]
    _ = if b.toNat % 0x800 = a.toNat % 0x800 then v else s.bus.ram.read (b.toNat % 0x800) :=
        Memory.read_write _ _ _ _ hInv.ram_wf
    _ = if a.toNat % 0x800 = b.toNat % 0x800 then v else (memRead b s).1 := by
        simp only [memRead_ram_byte b s hb, eq_comm]

end Sys2Proof.Machine
end

section
/-! Proofs about the encoding (30_encoding.md): what decodes re-encodes to the bytes it came from, and what is refused begins with no
encoding. -/

namespace Sys2Proof

open Sys2Proof.Machine (hi lo word)

/-- The bytes of the instruction with opcode byte `op` that `b1` and `b2` follow; a three-byte instruction carries the two as one
word (R140, R141). -/
def layout (op b1 b2 : Byte) : List Byte :=
  match operandCount op with
  | 0 => [op]
  | 1 => [op, b1]
  | _ => [op, lo (word b2 b1), hi (word b2 b1)]

/-- An instruction has at most three bytes (R141). -/
theorem operandCount_le_two (op : Byte) : operandCount op ≤ 2 :=
  (by decide +kernel : ∀ n : Fin 256, operandCount ⟨n⟩ ≤ 2) op.toFin

theorem layout_eq_take (op b1 b2 : Byte) : layout op b1 b2 = op :: [b1, b2].take (operandCount op) := by
  have hle := operandCount_le_two op
  have hcount : operandCount op = 0 ∨ operandCount op = 1 ∨ operandCount op = 2 := by omega
  obtain h | h | h := hcount <;> simp [layout, h]

/-- The decoders' table and the encoder agree on each of the 256 opcode bytes, entry by entry, for any operand bytes (R145). -/
theorem map_encode_decoders (b1 b2 : Byte) :
    decoders.map (List.map fun f => encode (f b1 b2)) =
      (List.range 16).map fun h => (List.range 16).map fun l => layout (BitVec.ofNat 8 (16 * h + l)) b1 b2 := rfl

/-- Looking an entry up in a list commutes with mapping over the list, when the default is mapped too. -/
theorem getD_map_apply {α β : Type} (f : α → β) (l : List α) (n : Nat) (d : α) : (l.map f).getD n (f d) = f (l.getD n d) := by
  rw [List.getD_eq_getElem?_getD, List.getD_eq_getElem?_getD, List.getElem?_map, Option.getD_map]

/-- Looking an entry up in a table of rows commutes with mapping over the table. -/
theorem getD_getD_map_map {α β : Type} (f : α → β) (table : List (List α)) (row col : Nat) (d : α) :
    ((table.map (List.map f)).getD row []).getD col (f d) = f ((table.getD row []).getD col d) := by
  rw [← getD_map_apply f, ← getD_map_apply (List.map f), List.map_nil]

/-- What the decoder reads for an opcode byte encodes to the layout of that byte: both stand at the same entry of the two tables. -/
theorem encode_decodeOp_eq_layout (op b1 b2 : Byte) : encode (decodeOp op b1 b2) = layout op b1 b2 := by
  have hrow : op.toNat / 16 < 16 := by have := op.isLt; omega
  have hcol : op.toNat % 16 < 16 := by omega
  calc encode (decodeOp op b1 b2)
      = ((decoders.map (List.map fun f => encode (f b1 b2))).getD (op.toNat / 16) []).getD (op.toNat % 16) (encode .nop) :=
        (getD_getD_map_map (fun f => encode (f b1 b2)) decoders _ _ fun _ _ => .nop).symm
    _ = layout (BitVec.ofNat 8 (16 * (op.toNat / 16) + op.toNat % 16)) b1 b2 := by
        rw [map_encode_decoders]
        simp [hrow, hcol]
    _ = layout op b1 b2 := by rw [Nat.div_add_mod, BitVec.ofNat_toNat, BitVec.setWidth_eq]

/-- The encoding of an instruction is one opcode byte and as many operand bytes as its row of the table says (R140). -/
theorem encode_eq_cons (i : Instr) : ∃ op operands, encode i = op :: operands ∧ operands.length = operandCount op := by
  have hwf : wellFormedBytes (encode i) = true := i.wellFormed_all
  cases h : encode i with
  | nil => simp [h, wellFormedBytes] at hwf
  | cons op operands => exact ⟨op, operands, rfl, by simpa [h, wellFormedBytes] using hwf⟩

/-- With enough bytes after the opcode byte, the decoder reads one instruction and leaves the bytes after its operands. -/
theorem decode_cons_of_le {op : Byte} {tail : List Byte} (h : operandCount op ≤ tail.length) :
    decode (op :: tail) = .ok (decodeOp op (tail.getD 0 0) (tail.getD 1 0), tail.drop (operandCount op)) :=
  if_neg (Nat.not_lt.mpr h)

/-- With too few bytes after the opcode byte, the decoder refuses. -/
theorem decode_cons_of_lt {op : Byte} {tail : List Byte} (h : tail.length < operandCount op) :
    decode (op :: tail) = .error (.missingOperand op) :=
  if_pos h

/-- The operands the decoder passes on are the bytes it consumes. -/
theorem take_getD_pair {n : Nat} {tail : List Byte} (h2 : n ≤ 2) (hlen : n ≤ tail.length) :
    [tail.getD 0 0, tail.getD 1 0].take n = tail.take n := by
  have hn : n = 0 ∨ n = 1 ∨ n = 2 := by omega
  obtain rfl | rfl | rfl := hn
  · rfl
  · match tail, hlen with
    | _ :: _, _ => rfl
  · match tail, hlen with
    | _ :: _ :: _, _ => rfl

/-- What decodes re-encodes to the bytes it came from. -/
theorem encode_append_of_decode_ok {bytes rest : List Byte} {i : Instr} (h : decode bytes = .ok (i, rest)) :
    encode i ++ rest = bytes := by
  cases bytes with
  | nil => cases h
  | cons op tail =>
    by_cases hlen : tail.length < operandCount op
    · rw [decode_cons_of_lt hlen] at h
      cases h
    · have hle : operandCount op ≤ tail.length := Nat.not_lt.mp hlen
      rw [decode_cons_of_le hle] at h
      cases h
      rw [encode_decodeOp_eq_layout, layout_eq_take, take_getD_pair (operandCount_le_two op) hle, List.cons_append,
        List.take_append_drop]

/-- No sequence that begins with an encoding is refused. -/
theorem exists_decode_encode_append (i : Instr) (rest : List Byte) : ∃ r, decode (encode i ++ rest) = .ok r := by
  obtain ⟨op, operands, henc, hlen⟩ := encode_eq_cons i
  have hle : operandCount op ≤ (operands ++ rest).length := by rw [List.length_append]; omega
  exact ⟨_, by rw [henc, List.cons_append, decode_cons_of_le hle]⟩

/-- Settles O43: the first clause because no opcode byte asks for more than two bytes, the other two because the tables of the decoder
and of the encoder agree, in their bytes and in their lengths. -/
theorem encodeDecodeAgree : Obligations.EncodeDecodeAgree := by
  refine ⟨fun op b1 b2 rest => ?_, fun bytes => ?_⟩
  · have hle : operandCount op ≤ (b1 :: b2 :: rest).length :=
      Nat.le_trans (operandCount_le_two op) (Nat.le_add_left 2 rest.length)
    exact ⟨_, _, decode_cons_of_le hle⟩
  · split
    next i rest h => exact encode_append_of_decode_ok h
    next e h =>
      rintro i rest rfl
      obtain ⟨r, hr⟩ := exists_decode_encode_append i rest
      rw [hr] at h
      cases h

end Sys2Proof
end

section
/-! Proofs about control flow (44_control_flow.md): JMP. -/

namespace Sys2Proof.Machine

open Claims (Kept OnRegisters pair)

/-! ### Words as numbers -/

/-- The word with these two bytes is 256 times the high byte plus the low byte (R11). -/
theorem toNat_word (h l : Byte) : (word h l).toNat = 256 * h.toNat + l.toNat := by
  have hh := h.isLt
  have hl := l.isLt
  have hshift : h.toNat <<< 8 = 256 * h.toNat := by rw [Nat.shiftLeft_eq]; omega
  calc (word h l).toNat
      = h.toNat <<< 8 ||| l.toNat := by
        unfold word
        rw [BitVec.toNat_or, BitVec.toNat_shiftLeft, BitVec.toNat_setWidth, BitVec.toNat_setWidth,
          Nat.mod_eq_of_lt (by omega : h.toNat < 2 ^ 16), Nat.mod_eq_of_lt (by omega : l.toNat < 2 ^ 16),
          Nat.mod_eq_of_lt (by omega : h.toNat <<< 8 < 2 ^ 16)]
    _ = 256 * h.toNat + l.toNat := by rw [← Nat.shiftLeft_add_eq_or_of_lt hl, hshift]

theorem word_eq_pair (h l : Byte) : word h l = pair h l := by
  unfold pair
  rw [← toNat_word, BitVec.ofNat_toNat, BitVec.setWidth_eq]

theorem toNat_hi (w : Word) : (hi w).toNat = w.toNat / 256 := by
  have hw := congrArg BitVec.toNat (word_hi_lo w)
  rw [toNat_word] at hw
  have hl := (lo w).isLt
  omega

theorem toNat_lo (w : Word) : (lo w).toNat = w.toNat % 256 := by
  unfold lo
  rw [BitVec.toNat_setWidth]

/-! ### The pointer of JMP indirect (R181) -/

/-- The address of the pointer's high byte stays in the pointer's page. -/
theorem word_hi_lo_succ (w : Word) :
    word (hi w) (lo w + 1) = BitVec.ofNat 16 (w.toNat / 256 * 256 + (w.toNat + 1) % 256) := by
  have hlow : (lo w + 1).toNat = (w.toNat + 1) % 256 := by
    rw [BitVec.toNat_add, toNat_lo]
    exact (Nat.add_mod _ _ _).symm
  rw [word_eq_pair, pair, toNat_hi, hlow, Nat.mul_comm 256]

theorem indirect_frame (w : Word) (s : State) : ReadFrame s (indirect w s).2 :=
  (memRead_frame _ s).trans (memRead_frame _ _)

/-- The two reads of JMP indirect, with the address of the second and the word read as numbers (R181). -/
theorem indirect_eq (w : Word) (s : State) :
    let l := memRead w s
    let h := memRead (BitVec.ofNat 16 (w.toNat / 256 * 256 + (w.toNat + 1) % 256)) l.2
    indirect w s = (pair h.1 l.1, h.2) := by
  unfold indirect
  rw [word_hi_lo_succ]
  simp only [word_eq_pair]

/-! ### Completions -/

/-- An answer that is ticks and a new register file is a completion on the registers alone. -/
theorem onRegisters_of_exec_eq {i : Instr} {s : State} {cycles : Nat} {c : Cpu}
    (h : exec i s = .next ((tick cycles s).setCpu c)) : OnRegisters i s cycles c :=
  have ht := tick_frame cycles s
  ⟨_, h, rfl, rfl, tick_cycles cycles s, ht.storage.trans (SameStorage.setCpu _ _), ht.port, ht.io, ht.latch, ht.stall,
    ht.fixed, ht.jammed⟩

/-- An answer that is ticks of the state some reads leave, and a new register file: the effect on the register file, the time it
takes, and that no cell changes. -/
theorem completes_of_exec_eq {i : Instr} {s u : State} {cycles : Nat} {c : Cpu}
    (h : exec i s = .next ((tick cycles u).setCpu c)) (hr : ReadFrame s u) :
    ∃ t, exec i s = .next t ∧ t.cpu = c ∧ t = (tick cycles u).setCpu t.cpu ∧ t.cycles = s.cycles + cycles ∧
      SameStorage s t ∧ Kept s t :=
  have ht := tick_frame cycles u
  have hcycles : (tick cycles u).cycles = s.cycles + cycles := by rw [tick_cycles, hr.cycles]
  ⟨_, h, rfl, rfl, hcycles, (hr.storage.trans ht.storage).trans (SameStorage.setCpu _ _), hr.fixed.trans ht.fixed,
    ht.jammed.trans hr.jammed⟩

/-! ### JMP (R281) -/

theorem exec_jmpAbsolute_eq (w : Word) (s : State) :
    exec (.jmpAbsolute w) s = .next ((tick 3 s).setCpu (s.cpu.setPc w)) :=
  finishJump_setCpu 3 s _

theorem exec_jmpIndirect_eq (w : Word) (s : State) :
    exec (.jmpIndirect w) s = .next ((tick 5 (indirect w s).2).setCpu (s.cpu.setPc (indirect w s).1)) := by
  have harm : exec (.jmpIndirect w) s =
      finishJump 5 ((indirect w s).2.setCpu ((indirect w s).2.cpu.setPc (indirect w s).1)) := rfl
  rw [harm, finishJump_setCpu, (indirect_frame w s).cpu]

/-- Settles O14: both forms end in ticks of the state their reads leave, and neither reads nor ticks reach a cell; the second
byte of the pointer is read inside the pointer's page. -/
theorem jmpJumps : Obligations.JmpJumps := by
  refine ⟨fun s w => onRegisters_of_exec_eq (exec_jmpAbsolute_eq w s), fun s w => ?_⟩
  have hexec := exec_jmpIndirect_eq w s
  have hreads := indirect_frame w s
  rw [indirect_eq] at hexec hreads
  exact completes_of_exec_eq hexec hreads

end Sys2Proof.Machine
end

section
/-! Proofs about the encoding (30_encoding.md): an encoding decodes to the instruction it came from. -/

namespace Sys2Proof

open Sys2Proof.Machine (hi lo word)

/-- A one-byte instruction decodes whatever bytes follow: its decoder reads no operand byte. -/
theorem decode_one_byte {op : Byte} {i : Instr} (hcount : operandCount op = 0) (hdec : ∀ b1 b2, decodeOp op b1 b2 = i)
    (rest : List Byte) : decode ([op] ++ rest) = .ok (i, rest) := by
  rw [List.singleton_append, decode_cons_of_le (by omega), hdec, hcount, List.drop_zero]

/-- A two-byte instruction decodes whatever bytes follow: its decoder reads the first operand byte alone. -/
theorem decode_two_bytes {op d : Byte} {i : Instr} (hcount : operandCount op = 1) (hdec : ∀ b2, decodeOp op d b2 = i)
    (rest : List Byte) : decode ([op, d] ++ rest) = .ok (i, rest) := by
  have hle : operandCount op ≤ (d :: rest).length := by rw [hcount, List.length_cons]; omega
  rw [show [op, d] ++ rest = op :: (d :: rest) from rfl, decode_cons_of_le hle, List.getD_cons_zero, hdec, hcount,
    List.drop_one, List.tail_cons]

/-- A three-byte instruction decodes whatever bytes follow: its decoder puts the two operand bytes together again (R101). -/
theorem decode_three_bytes {op : Byte} {w : Word} {i : Word → Instr} (hcount : operandCount op = 2)
    (hdec : ∀ l h, decodeOp op l h = i (word h l)) (rest : List Byte) : decode ([op, lo w, hi w] ++ rest) = .ok (i w, rest) := by
  have hle : operandCount op ≤ (lo w :: hi w :: rest).length := by rw [hcount, List.length_cons, List.length_cons]; omega
  rw [show [op, lo w, hi w] ++ rest = op :: (lo w :: hi w :: rest) from rfl, decode_cons_of_le hle, List.getD_cons_zero,
    List.getD_cons_succ, List.getD_cons_zero, hdec, word_hi_lo, hcount]
  rfl

/-- Settles O42: a case for each length, because the table the decoder uses and the encoder's arm agree on each instruction. -/
theorem decodeEncodeAgree : Obligations.DecodeEncodeAgree := by
  intro i rest
  cases i with
  | oraIndirectX d | sloIndirectX d | nopZeropage04 d | oraZeropage d | aslZeropage d | sloZeropage d | oraImmediate d
  | ancImmediate0B d | bpl d | oraIndirectY d | sloIndirectY d | nopZeropageX14 d | oraZeropageX d | aslZeropageX d
  | sloZeropageX d | andIndirectX d | rlaIndirectX d | bitZeropage d | andZeropage d | rolZeropage d | rlaZeropage d
  | andImmediate d | ancImmediate2B d | bmi d | andIndirectY d | rlaIndirectY d | nopZeropageX34 d | andZeropageX d
  | rolZeropageX d | rlaZeropageX d | eorIndirectX d | sreIndirectX d | nopZeropage44 d | eorZeropage d | lsrZeropage d
  | sreZeropage d | eorImmediate d | alrImmediate d | bvc d | eorIndirectY d | sreIndirectY d | nopZeropageX54 d
  | eorZeropageX d | lsrZeropageX d | sreZeropageX d | adcIndirectX d | rraIndirectX d | nopZeropage64 d | adcZeropage d
  | rorZeropage d | rraZeropage d | adcImmediate d | arrImmediate d | bvs d | adcIndirectY d | rraIndirectY d
  | nopZeropageX74 d | adcZeropageX d | rorZeropageX d | rraZeropageX d | nopImmediate80 d | staIndirectX d
  | nopImmediate82 d | saxIndirectX d | styZeropage d | staZeropage d | stxZeropage d | saxZeropage d | nopImmediate89 d
  | aneImmediate d | bcc d | staIndirectY d | shaIndirectY d | styZeropageX d | staZeropageX d | stxZeropageY d
  | saxZeropageY d | ldyImmediate d | ldaIndirectX d | ldxImmediate d | laxIndirectX d | ldyZeropage d | ldaZeropage d
  | ldxZeropage d | laxZeropage d | ldaImmediate d | lxaImmediate d | bcs d | ldaIndirectY d | laxIndirectY d
  | ldyZeropageX d | ldaZeropageX d | ldxZeropageY d | laxZeropageY d | cpyImmediate d | cmpIndirectX d | nopImmediateC2 d
  | dcpIndirectX d | cpyZeropage d | cmpZeropage d | decZeropage d | dcpZeropage d | cmpImmediate d | sbxImmediate d | bne d
  | cmpIndirectY d | dcpIndirectY d | nopZeropageXD4 d | cmpZeropageX d | decZeropageX d | dcpZeropageX d | cpxImmediate d
  | sbcIndirectX d | nopImmediateE2 d | isbIndirectX d | cpxZeropage d | sbcZeropage d | incZeropage d | isbZeropage d
  | sbcImmediate d | sbcImmediateEB d | beq d | sbcIndirectY d | isbIndirectY d | nopZeropageXF4 d | sbcZeropageX d
  | incZeropageX d | isbZeropageX d =>
    exact decode_two_bytes rfl (fun _ => rfl) rest
  | nopAbsolute w | oraAbsolute w | aslAbsolute w | sloAbsolute w | oraAbsoluteY w | sloAbsoluteY w | nopAbsoluteX1C w
  | oraAbsoluteX w | aslAbsoluteX w | sloAbsoluteX w | jsr w | bitAbsolute w | andAbsolute w | rolAbsolute w | rlaAbsolute w
  | andAbsoluteY w | rlaAbsoluteY w | nopAbsoluteX3C w | andAbsoluteX w | rolAbsoluteX w | rlaAbsoluteX w | jmpAbsolute w
  | eorAbsolute w | lsrAbsolute w | sreAbsolute w | eorAbsoluteY w | sreAbsoluteY w | nopAbsoluteX5C w | eorAbsoluteX w
  | lsrAbsoluteX w | sreAbsoluteX w | jmpIndirect w | adcAbsolute w | rorAbsolute w | rraAbsolute w | adcAbsoluteY w
  | rraAbsoluteY w | nopAbsoluteX7C w | adcAbsoluteX w | rorAbsoluteX w | rraAbsoluteX w | styAbsolute w | staAbsolute w
  | stxAbsolute w | saxAbsolute w | staAbsoluteY w | tasAbsoluteY w | shyAbsoluteX w | staAbsoluteX w | shxAbsoluteY w
  | shaAbsoluteY w | ldyAbsolute w | ldaAbsolute w | ldxAbsolute w | laxAbsolute w | ldaAbsoluteY w | lasAbsoluteY w
  | ldyAbsoluteX w | ldaAbsoluteX w | ldxAbsoluteY w | laxAbsoluteY w | cpyAbsolute w | cmpAbsolute w | decAbsolute w
  | dcpAbsolute w | cmpAbsoluteY w | dcpAbsoluteY w | nopAbsoluteXDC w | cmpAbsoluteX w | decAbsoluteX w | dcpAbsoluteX w
  | cpxAbsolute w | sbcAbsolute w | incAbsolute w | isbAbsolute w | sbcAbsoluteY w | isbAbsoluteY w | nopAbsoluteXFC w
  | sbcAbsoluteX w | incAbsoluteX w | isbAbsoluteX w =>
    exact decode_three_bytes rfl (fun _ _ => rfl) rest
  | brk | jam02 | php | aslAccumulator | jam12 | clc | nop1A | jam22 | plp | rolAccumulator | jam32 | sec | nop3A | rti
  | jam42 | pha | lsrAccumulator | jam52 | cli | nop5A | rts | jam62 | pla | rorAccumulator | jam72 | sei | nop7A | dey | txa
  | jam92 | tya | txs | tay | tax | jamB2 | clv | tsx | iny | dex | jamD2 | cld | nopDA | inx | nop | jamF2 | sed | nopFA =>
    exact decode_one_byte rfl (fun _ _ => rfl) rest

/-- Settles O44: the sample words are encodings, but for the two sequences that are cut short. -/
theorem decodeSampleWords : Obligations.DecodeSampleWords :=
  ⟨decodeEncodeAgree (.ldaImmediate 0x50) [], decodeEncodeAgree (.adcImmediate 0x50) [], decodeEncodeAgree (.jmpIndirect 0x02FF) [],
    decodeEncodeAgree (.staAbsoluteX 0x2000) [], decodeEncodeAgree .aslAccumulator [], decodeEncodeAgree .brk [0xFF#8],
    decodeEncodeAgree (.bne 0xF9) [], decodeEncodeAgree .plp [], decodeEncodeAgree (.laxIndirectY 0x10) [],
    decodeEncodeAgree .jamF2 [], decode_cons_of_lt (by decide), rfl⟩

end Sys2Proof
end

section
/-! Proofs about every step: it completes from a machine that has been reset, it keeps that, and it keeps the invariant. -/

namespace Sys2Proof.Machine

/-! ### States reached by accesses and ticks -/

/-- What every access and every tick keeps: the invariant, and that the machine has been reset. -/
structure Reached (s u : State) : Prop where
  inv     : s.Inv → u.Inv
  started : u.started = s.started

theorem Reached.refl (s : State) : Reached s s := ⟨id, rfl⟩

theorem Reached.trans {s t u : State} (h : Reached s t) (h' : Reached t u) : Reached s u :=
  ⟨h'.inv ∘ h.inv, h'.started.trans h.started⟩

theorem Reached.of_read {s u : State} (h : ReadFrame s u) (hI : s.Inv → u.Inv) : Reached s u := ⟨hI, h.started⟩

section
variable {s u : State} (h : Reached s u)
include h

theorem Reached.setCpu (c : Cpu) : Reached s (u.setCpu c) := h.trans ⟨fun hu => hu.setCpu c, rfl⟩

theorem Reached.setJammed (b : Bool) : Reached s (u.setJammed b) := h.trans ⟨fun hu => hu.setJammed b, rfl⟩

theorem Reached.memRead (addr : Word) : Reached s (memRead addr u).2 :=
  h.trans (.of_read (memRead_frame addr u) fun hu => hu.memRead addr)

theorem Reached.memWrite (addr : Word) (v : Byte) : Reached s (memWrite addr v u) := by
  obtain ⟨_, _, _, _, hstarted⟩ := (memWrite_frame addr v u).fixed
  exact h.trans ⟨fun hu => hu.memWrite addr v, hstarted⟩

theorem Reached.tick (n : Nat) : Reached s (tick n u) := h.trans ⟨fun hu => hu.tick n, (tick_frame n u).started⟩

theorem Reached.push (b : Byte) : Reached s (push b u) := (h.memWrite _ b).setCpu _

theorem Reached.pop : Reached s (pop u).2 := (h.setCpu _).memRead _

theorem Reached.pushWord (w : Word) : Reached s (pushWord w u) := (h.push _).push _

theorem Reached.popWord : Reached s (popWord u).2 := h.pop.pop

theorem Reached.enterInterrupt (ret : Word) (brk : Bool) (vector : Word) : Reached s (enterInterrupt ret brk vector u) :=
  ((((h.pushWord ret).push _).memRead _).memRead _).setCpu _

theorem Reached.returnFromInterrupt : Reached s (returnFromInterrupt u) := ((h.pop.setCpu _).popWord).setCpu _

end

theorem Reached.indirectX (d : Byte) (s : State) : Reached s (indirectX d s).2 :=
  .of_read (indirectX_frame d s) fun h => h.zeropagePointer _

theorem Reached.indexNormal (base : Word) (idx : Byte) (s : State) : Reached s (indexNormal base idx s).2 :=
  .of_read (indexNormal_frame base idx s) fun h => h.indexNormal base idx

theorem Reached.indexForced (base : Word) (idx : Byte) (s : State) : Reached s (indexForced base idx s).2 :=
  .of_read (indexForced_frame base idx s) fun h => h.indexForced base idx

theorem Reached.indirectYNormal (d : Byte) (s : State) : Reached s (indirectYNormal d s).2 :=
  .of_read (indirectYNormal_frame d s) fun h => h.indirectYNormal d

theorem Reached.indirectYForced (d : Byte) (s : State) : Reached s (indirectYForced d s).2 :=
  .of_read (indirectYForced_frame d s) fun h => h.indirectYForced d

/-! ### Outcomes that complete -/

/-- The outcome is a next state, reached from `s`. -/
def Completes (s : State) (r : Result) : Prop := ∃ t, r = .next t ∧ Reached s t

theorem Reached.next {s u : State} (h : Reached s u) : Completes s (.next u) := ⟨u, rfl, h⟩

section
variable {s u : State} (h : Reached s u)
include h

theorem Reached.finish (len cycles : Nat) : Completes s (finish len cycles u) := ((h.setCpu _).tick cycles).next

theorem Reached.finishJump (cycles : Nat) : Completes s (finishJump cycles u) := (h.tick cycles).next

theorem Reached.readInstr (len base : Nat) (f : Cpu → Byte → Cpu) (ea : Word) : Completes s (readInstr len base f ea u) :=
  ((h.memRead ea).setCpu _).finish len base

theorem Reached.writeInstr (len base : Nat) (ea : Word) (v : Byte) : Completes s (writeInstr len base ea v u) :=
  (h.memWrite ea v).finish len base

theorem Reached.modifyInstr (len base : Nat) (f : Cpu → Byte → Byte × Cpu) (ea : Word) :
    Completes s (modifyInstr len base f ea u) :=
  (((h.memRead ea).memWrite ea _).setCpu _).finish len base

end

theorem Reached.branch (s : State) (cond : Bool) (d : Byte) : Completes s (branch cond d s) := by
  cases cond with
  | true => exact ((Reached.refl s).setCpu _).finishJump _
  | false => exact (Reached.refl s).finish 2 2

/-! ### Every instruction and every step (R172, R170) -/

/-- Every instruction completes: a case for each shape of its accesses. -/
theorem exec_completes (i : Instr) (s : State) : Completes s (exec i s) := by
  cases i with
  | nopZeropage04 d | oraZeropage d | nopZeropageX14 d | oraZeropageX d | bitZeropage d | andZeropage d | nopZeropageX34 d
  | andZeropageX d | nopZeropage44 d | eorZeropage d | nopZeropageX54 d | eorZeropageX d | nopZeropage64 d | adcZeropage d
  | nopZeropageX74 d | adcZeropageX d | ldyZeropage d | ldaZeropage d | ldxZeropage d | laxZeropage d | ldyZeropageX d
  | ldaZeropageX d | ldxZeropageY d | laxZeropageY d | cpyZeropage d | cmpZeropage d | nopZeropageXD4 d | cmpZeropageX d
  | cpxZeropage d | sbcZeropage d | nopZeropageXF4 d | sbcZeropageX d | nopAbsolute w | oraAbsolute w | bitAbsolute w
  | andAbsolute w | eorAbsolute w | adcAbsolute w | ldyAbsolute w | ldaAbsolute w | ldxAbsolute w | laxAbsolute w
  | cpyAbsolute w | cmpAbsolute w | cpxAbsolute w | sbcAbsolute w =>
    exact (Reached.refl s).readInstr _ _ _ _
  | oraIndirectX d | andIndirectX d | eorIndirectX d | adcIndirectX d | ldaIndirectX d | laxIndirectX d | cmpIndirectX d
  | sbcIndirectX d =>
    exact (Reached.indirectX d s).readInstr _ _ _ _
  | oraAbsoluteY w | nopAbsoluteX1C w | oraAbsoluteX w | andAbsoluteY w | nopAbsoluteX3C w | andAbsoluteX w | eorAbsoluteY w
  | nopAbsoluteX5C w | eorAbsoluteX w | adcAbsoluteY w | nopAbsoluteX7C w | adcAbsoluteX w | ldaAbsoluteY w | lasAbsoluteY w
  | ldyAbsoluteX w | ldaAbsoluteX w | ldxAbsoluteY w | laxAbsoluteY w | cmpAbsoluteY w | nopAbsoluteXDC w | cmpAbsoluteX w
  | sbcAbsoluteY w | nopAbsoluteXFC w | sbcAbsoluteX w =>
    exact (Reached.indexNormal w _ s).readInstr _ _ _ _
  | oraIndirectY d | andIndirectY d | eorIndirectY d | adcIndirectY d | ldaIndirectY d | laxIndirectY d | cmpIndirectY d
  | sbcIndirectY d =>
    exact (Reached.indirectYNormal d s).readInstr _ _ _ _
  | styZeropage d | staZeropage d | stxZeropage d | saxZeropage d | styZeropageX d | staZeropageX d | stxZeropageY d
  | saxZeropageY d | styAbsolute w | staAbsolute w | stxAbsolute w | saxAbsolute w =>
    exact (Reached.refl s).writeInstr _ _ _ _
  | staIndirectX d | saxIndirectX d =>
    exact (Reached.indirectX d s).writeInstr _ _ _ _
  | staAbsoluteY w | staAbsoluteX w | shyAbsoluteX w | shxAbsoluteY w | shaAbsoluteY w =>
    exact (Reached.indexForced w _ s).writeInstr _ _ _ _
  | staIndirectY d | shaIndirectY d =>
    exact (Reached.indirectYForced d s).writeInstr _ _ _ _
  | tasAbsoluteY w =>
    exact ((Reached.indexForced w _ s).setCpu _).writeInstr _ _ _ _
  | aslZeropage d | sloZeropage d | aslZeropageX d | sloZeropageX d | rolZeropage d | rlaZeropage d | rolZeropageX d
  | rlaZeropageX d | lsrZeropage d | sreZeropage d | lsrZeropageX d | sreZeropageX d | rorZeropage d | rraZeropage d
  | rorZeropageX d | rraZeropageX d | decZeropage d | dcpZeropage d | decZeropageX d | dcpZeropageX d | incZeropage d
  | isbZeropage d | incZeropageX d | isbZeropageX d | aslAbsolute w | sloAbsolute w | rolAbsolute w | rlaAbsolute w
  | lsrAbsolute w | sreAbsolute w | rorAbsolute w | rraAbsolute w | decAbsolute w | dcpAbsolute w | incAbsolute w
  | isbAbsolute w =>
    exact (Reached.refl s).modifyInstr _ _ _ _
  | sloIndirectX d | rlaIndirectX d | sreIndirectX d | rraIndirectX d | dcpIndirectX d | isbIndirectX d =>
    exact (Reached.indirectX d s).modifyInstr _ _ _ _
  | sloAbsoluteY w | aslAbsoluteX w | sloAbsoluteX w | rlaAbsoluteY w | rolAbsoluteX w | rlaAbsoluteX w | sreAbsoluteY w
  | lsrAbsoluteX w | sreAbsoluteX w | rraAbsoluteY w | rorAbsoluteX w | rraAbsoluteX w | dcpAbsoluteY w | decAbsoluteX w
  | dcpAbsoluteX w | isbAbsoluteY w | incAbsoluteX w | isbAbsoluteX w =>
    exact (Reached.indexForced w _ s).modifyInstr _ _ _ _
  | sloIndirectY d | rlaIndirectY d | sreIndirectY d | rraIndirectY d | dcpIndirectY d | isbIndirectY d =>
    exact (Reached.indirectYForced d s).modifyInstr _ _ _ _
  | oraImmediate d | ancImmediate0B d | andImmediate d | ancImmediate2B d | eorImmediate d | alrImmediate d | adcImmediate d
  | arrImmediate d | nopImmediate80 d | nopImmediate82 d | nopImmediate89 d | aneImmediate d | ldyImmediate d
  | ldxImmediate d | ldaImmediate d | lxaImmediate d | cpyImmediate d | nopImmediateC2 d | cmpImmediate d | sbxImmediate d
  | cpxImmediate d | nopImmediateE2 d | sbcImmediate d | sbcImmediateEB d | aslAccumulator | rolAccumulator | lsrAccumulator
  | rorAccumulator | clc | nop1A | sec | nop3A | cli | nop5A | sei | nop7A | dey | txa | tya | txs | tay | tax | clv | tsx
  | iny | dex | cld | nopDA | inx | nop | sed | nopFA =>
    exact ((Reached.refl s).setCpu _).finish _ _
  | bpl d | bmi d | bvc d | bvs d | bcc d | bcs d | bne d | beq d =>
    exact Reached.branch s _ d
  | php | pha =>
    exact ((Reached.refl s).push _).finish _ _
  | plp | pla =>
    exact ((Reached.refl s).pop.setCpu _).finish _ _
  | rts =>
    exact ((Reached.refl s).popWord.setCpu _).finishJump _
  | jsr w =>
    exact (((Reached.refl s).pushWord _).setCpu _).finishJump _
  | jmpIndirect w =>
    exact ((Reached.of_read (indirect_frame w s) fun h => (h.memRead _).memRead _).setCpu _).finishJump _
  | jmpAbsolute w =>
    exact ((Reached.refl s).setCpu _).finishJump _
  | brk =>
    exact ((Reached.refl s).enterInterrupt _ _ _).finishJump _
  | rti =>
    exact (Reached.refl s).returnFromInterrupt.finishJump _
  | jam02 | jam12 | jam22 | jam32 | jam42 | jam52 | jam62 | jam72 | jam92 | jamB2 | jamD2 | jamF2 =>
    exact ((Reached.refl s).setJammed true).next

theorem Reached.fetchInstr (s : State) : Reached s (fetchInstr s).2 := by
  refine ⟨fun h => h.fetchInstr, ?_⟩
  unfold Machine.fetchInstr
  dsimp only
  split
  · exact ((Reached.refl s).memRead _).started
  · exact (((Reached.refl s).memRead _).memRead _).started
  · exact ((((Reached.refl s).memRead _).memRead _).memRead _).started

theorem Completes.of_reached {s t : State} {r : Result} (h : Reached s t) (h' : Completes t r) : Completes s r := by
  obtain ⟨u, hr, hu⟩ := h'
  exact ⟨u, hr, h.trans hu⟩

theorem executeInstruction_completes (s : State) : Completes s (executeInstruction s) :=
  (exec_completes _ _).of_reached (Reached.fetchInstr s)

theorem serviceStep_completes (vector : Word) (s : State) : Completes s (serviceStep vector s) :=
  ((Reached.refl s).enterInterrupt _ _ _).finishJump _

theorem Reached.clearPending (s : State) : Reached s (clearPending s) := ⟨fun h => h.clearPending, rfl⟩

theorem dispatchStep_completes (s : State) : Completes s (dispatchStep s) := by
  unfold dispatchStep
  split
  · exact (serviceStep_completes _ _).of_reached (Reached.clearPending s)
  · split
    · exact (executeInstruction_completes _).of_reached (Reached.clearPending s)
    · exact (serviceStep_completes _ _).of_reached (Reached.clearPending s)
  · exact executeInstruction_completes s

theorem Reached.beginStep (s : State) : Reached s (beginStep s) := by
  refine ⟨fun h => h.beginStep, ?_⟩
  unfold Machine.beginStep
  dsimp only
  split
  · exact (tick_frame _ _).started
  · rfl

theorem step_of_not_started {s : State} (h : s.started = false) : step s = .refused .stepBeforeReset := by
  unfold step
  rw [h]
  rfl

theorem step_of_jammed {s : State} (h : s.started = true) (hj : s.jammed = true) : step s = .next (s.setFrameReady false) := by
  unfold step
  rw [h, hj]
  rfl

theorem step_of_running {s : State} (h : s.started = true) (hj : s.jammed = false) : step s = dispatchStep (beginStep s) := by
  unfold step
  rw [h, hj]
  rfl

/-- From a machine that has been reset, every step completes (R553, R560). -/
theorem step_completes {s : State} (h : s.started = true) : Completes s (step s) := by
  cases hj : s.jammed with
  | true =>
    rw [step_of_jammed h hj]
    exact Reached.next ⟨fun hI => hI.setFrameReady false, rfl⟩
  | false =>
    rw [step_of_running h hj]
    exact (dispatchStep_completes _).of_reached (Reached.beginStep s)

/-- Settles O36: the two tests a step begins with. -/
theorem jammedAndUnstartedSteps : Obligations.JammedAndUnstartedSteps :=
  ⟨fun _ => step_of_jammed, fun _ => step_of_not_started⟩

/-- Settles O38: a step that answers a next state is one of a machine that has been reset, and it completes in a reached state. -/
theorem stepKeepsInv : Obligations.StepKeepsInv := by
  intro s t hI hstep
  cases hs : s.started with
  | false =>
    rw [step_of_not_started hs] at hstep
    cases hstep
  | true =>
    obtain ⟨u, hu, hreached⟩ := step_completes hs
    rw [hu] at hstep
    cases hstep
    exact hreached.inv hI

/-- Settles O37, by induction on the number of steps: each completes, and leaves a machine that has been reset. -/
theorem startedMachineRunsForever : Obligations.StartedMachineRunsForever := by
  intro n
  induction n with
  | zero => exact fun s _ => ⟨s, rfl⟩
  | succ n ih =>
    intro s hs
    obtain ⟨t, ht, hreached⟩ := step_completes hs
    obtain ⟨u, hu⟩ := ih t (hreached.started.trans hs)
    exact ⟨u, by rw [executeInstructions, ht]; exact hu⟩

end Sys2Proof.Machine
end

section
/-! Bytes as numbers: the model's flags, adder, comparator, shifts and status byte compute the numbers the statements write. -/

namespace Sys2Proof.Machine

open Claims hiding pixelIndex

/-! ### Bits and flags -/

/-- Bit `i` of a byte, as a digit of its number (R11). -/
theorem bit_eq (b : Byte) (i : Nat) : bit b i = decide (b.toNat / 2 ^ i % 2 = 1) := by
  unfold bit
  rw [← BitVec.testBit_toNat, Nat.testBit_eq_decide_div_mod_eq]

theorem bit_seven (b : Byte) : bit b 7 = decide (128 ≤ b.toNat) := by
  have hb := b.isLt
  rw [bit_eq, decide_eq_decide]
  omega

/-- Or of a number below `2 ^ k` and a multiple of `2 ^ k` is their sum. -/
theorem mul_two_pow_or {x k y : Nat} (hy : y < 2 ^ k) : 2 ^ k * x ||| y = 2 ^ k * x + y :=
  (Nat.two_pow_add_eq_or_of_lt hy x).symm

theorem eq_byte_of_toNat {b : Byte} {n : Nat} (h : b.toNat = n % 256) : b = byte n := BitVec.eq_of_toNat_eq h

@[simp] theorem toNat_byte (n : Nat) : (byte n).toNat = n % 256 := rfl

/-- `SetZN` tests the number of the byte (R39). -/
theorem setZN_eq_zn (p : Flags) (v : Byte) : p.setZN v = zn p v := by
  have hz : decide (v = 0#8) = decide (v.toNat = 0) := decide_eq_decide.mpr ⟨congrArg _, fun h => BitVec.eq_of_toNat_eq h⟩
  unfold Flags.setZN zn
  rw [hz, bit_seven]

theorem setZN_cpu (c : Cpu) (v : Byte) : c.setZN v = { c with p := zn c.p v } := by
  unfold Cpu.setZN Cpu.setP
  rw [setZN_eq_zn]

/-! ### The status byte (R37) -/

theorem toByte_eq_statusByte (p : Flags) (b : Bool) : p.toByte b = statusByte p b := by
  obtain ⟨c, z, i, d, v, n⟩ := p
  revert c z i d v n b
  decide

theorem ofByte_eq_statusFlags (m : Byte) : Flags.ofByte m = statusFlags m := by
  unfold Flags.ofByte statusFlags
  simp only [bit_eq, Nat.pow_zero, Nat.div_one, Nat.reducePow]

/-! ### The adder (R246, R232) -/

/-- The signed value of a byte, from its number. -/
theorem toInt_byte (b : Byte) : b.toInt = if b.toNat < 128 then (b.toNat : Int) else b.toNat - 256 := by
  rw [BitVec.toInt_eq_toNat_cond]
  have hb := b.isLt
  split <;> split <;> omega

/-- The overflow flag looks at the top bits of the two inputs and the result. -/
theorem addOverflow_eq (a m r : Byte) :
    addOverflow a m r = (decide (128 ≤ a.toNat) != decide (128 ≤ r.toNat) && decide (128 ≤ m.toNat) != decide (128 ≤ r.toNat)) := by
  have hbit : ∀ x : Byte, decide (x &&& 0x80#8 ≠ 0#8) = bit x 7 := by decide +kernel
  unfold addOverflow
  rw [hbit]
  simp only [← bit_seven]
  unfold bit
  rw [BitVec.getLsbD_and, BitVec.getLsbD_xor, BitVec.getLsbD_xor]

/-- The overflow flag of an addition says that the signed sum lies outside the signed range (R246). -/
theorem addOverflow_addByte (a m : Byte) (k : Bool) :
    addOverflow a m (addByte a m k) =
      decide (a.toInt + m.toInt + (num k : Int) < -128 ∨ 127 < a.toInt + m.toInt + (num k : Int)) := by
  have hk : num k = 0 ∨ num k = 1 := by cases k <;> decide
  have ha := a.isLt
  have hm := m.isLt
  have hr : (addByte a m k).toNat = (a.toNat + m.toNat + num k) % 256 := rfl
  rw [addOverflow_eq, hr, toInt_byte, toInt_byte, Bool.eq_iff_iff]
  simp only [Bool.and_eq_true, bne_iff_ne, ne_eq, decide_eq_decide, decide_eq_true_eq]
  generalize num k = n at hk
  split <;> split <;> omega

theorem addWithCarry_eq (c : Cpu) (m : Byte) : addWithCarry c m = addEffect c m := by
  unfold addWithCarry addEffect
  dsimp only
  rw [addOverflow_addByte, setZN_cpu]
  rfl

/-- The complement of a byte, as numbers (R232). -/
theorem toNat_complement (m : Byte) : (m ^^^ 0xFF#8).toNat = 255 - m.toNat := by
  have h : m ^^^ 0xFF#8 = ~~~m := by rw [show 0xFF#8 = BitVec.allOnes 8 from rfl, BitVec.xor_allOnes]
  rw [h, BitVec.toNat_not]

/-- Adding the complement is subtracting with borrow (R232). -/
theorem addEffect_complement (c : Cpu) (m : Byte) : addEffect c (m ^^^ 0xFF#8) = subEffect c m := by
  have hk : num c.p.c = 0 ∨ num c.p.c = 1 := by cases c.p.c <;> decide
  have ha := c.a.isLt
  have hm := m.isLt
  have hc := toNat_complement m
  have hint : (m ^^^ 0xFF#8).toInt = -1 - m.toInt := by rw [toInt_byte, toInt_byte, hc]; split <;> split <;> omega
  have hr : byte (c.a.toNat + (m ^^^ 0xFF#8).toNat + num c.p.c) =
      BitVec.ofInt 8 ((c.a.toNat : Int) - m.toNat - ((1 - num c.p.c : Nat) : Int)) := by
    apply BitVec.eq_of_toNat_eq
    rw [toNat_byte, BitVec.toNat_ofInt, hc]
    omega
  have hcarry : 255 < c.a.toNat + (m ^^^ 0xFF#8).toNat + num c.p.c ↔ m.toNat + (1 - num c.p.c) ≤ c.a.toNat := by
    rw [hc]; omega
  have hsigned : c.a.toInt + (m ^^^ 0xFF#8).toInt + (num c.p.c : Int) = c.a.toInt - m.toInt - ((1 - num c.p.c : Nat) : Int) := by
    rw [hint]; omega
  unfold addEffect subEffect
  dsimp only
  rw [hr, hsigned, decide_eq_decide.mpr hcarry]

theorem subtractWithBorrow_eq (c : Cpu) (m : Byte) : subtractWithBorrow c m = subEffect c m := by
  unfold subtractWithBorrow
  rw [addWithCarry_eq, addEffect_complement]

/-! ### The comparator (R247) -/

theorem compare_eq (c : Cpu) (r m : Byte) : compare c r m = compareEffect c r m := by
  have hr := r.isLt
  have hm := m.isLt
  have hz : r = m ↔ (r - m).toNat = 0 := by rw [← BitVec.toNat_inj, BitVec.toNat_sub]; omega
  unfold Machine.compare compareEffect zn Cpu.setP
  rw [bit_seven, decide_eq_decide.mpr hz]

/-! ### Shifts and rotates (R260) -/

theorem asl_eq (m : Byte) : asl m = (aslResult m, topBit m) :=
  Prod.ext (eq_byte_of_toNat (by unfold asl; rw [BitVec.toNat_shiftLeft, Nat.shiftLeft_eq]; omega)) (bit_seven m)

theorem bit_zero (m : Byte) : bit m 0 = lowBit m := by
  rw [bit_eq, Nat.pow_zero, Nat.div_one]
  rfl

theorem lsr_eq (m : Byte) : lsr m = (lsrResult m, lowBit m) := by
  have hm := m.isLt
  exact Prod.ext (eq_byte_of_toNat (by unfold lsr; rw [BitVec.toNat_ushiftRight, Nat.shiftRight_eq_div_pow]; omega)) (bit_zero m)

theorem toNat_bitByte (k : Bool) : (bitByte k).toNat = num k := by cases k <;> rfl

theorem rol_eq (m : Byte) (k : Bool) : rol m k = (rolResult k m, topBit m) := by
  have hm := m.isLt
  have hk : num k < 2 ^ 1 := by cases k <;> decide
  refine Prod.ext (eq_byte_of_toNat ?_) (bit_seven m)
  have hshift : (m <<< 1).toNat = 2 ^ 1 * (m.toNat % 128) := by rw [BitVec.toNat_shiftLeft, Nat.shiftLeft_eq]; omega
  unfold rol
  rw [BitVec.toNat_or, hshift, toNat_bitByte, mul_two_pow_or hk]
  omega

theorem ror_eq (m : Byte) (k : Bool) : ror m k = (rorResult k m, lowBit m) := by
  have hm := m.isLt
  have hk : num k < 2 := by cases k <;> decide
  refine Prod.ext (eq_byte_of_toNat ?_) (bit_zero m)
  have hhalf : (m >>> 1).toNat = m.toNat / 2 := by rw [BitVec.toNat_ushiftRight, Nat.shiftRight_eq_div_pow]
  have htop : (bitByte k <<< 7).toNat = 2 ^ 7 * num k := by
    rw [BitVec.toNat_shiftLeft, Nat.shiftLeft_eq, toNat_bitByte]; omega
  unfold ror
  rw [BitVec.toNat_or, hhalf, htop, Nat.or_comm, mul_two_pow_or (by omega : m.toNat / 2 < 2 ^ 7)]
  omega

theorem succ_eq (m : Byte) : m + 1 = byte (m.toNat + 1) := eq_byte_of_toNat rfl

theorem pred_eq (m : Byte) : m - 1 = byte (m.toNat + 255) :=
  eq_byte_of_toNat (by rw [BitVec.toNat_sub, Nat.add_comm]; rfl)

end Sys2Proof.Machine
end

section
/-! What each operation does to the register file, in the numbers of the statements: one equation for each. -/

namespace Sys2Proof.Machine

open Claims hiding pixelIndex

/-! ### Read class -/

theorem opLda_eq : opLda = fun c m => { c with a := m, p := zn c.p m } := by
  funext c m
  exact setZN_cpu _ m

theorem opLdx_eq : opLdx = fun c m => { c with x := m, p := zn c.p m } := by
  funext c m
  exact setZN_cpu _ m

theorem opLdy_eq : opLdy = fun c m => { c with y := m, p := zn c.p m } := by
  funext c m
  exact setZN_cpu _ m

theorem opLax_eq : opLax = fun c m => { c with a := m, x := m, p := zn c.p m } := by
  funext c m
  exact setZN_cpu _ m

theorem opLas_eq : opLas = fun c m => { c with a := m &&& c.sp, x := m &&& c.sp, sp := m &&& c.sp, p := zn c.p (m &&& c.sp) } := by
  funext c m
  exact setZN_cpu _ _

theorem opAnd_eq : opAnd = fun c m => { c with a := c.a &&& m, p := zn c.p (c.a &&& m) } := by
  funext c m
  exact setZN_cpu _ _

theorem opOra_eq : opOra = fun c m => { c with a := c.a ||| m, p := zn c.p (c.a ||| m) } := by
  funext c m
  exact setZN_cpu _ _

theorem opEor_eq : opEor = fun c m => { c with a := c.a ^^^ m, p := zn c.p (c.a ^^^ m) } := by
  funext c m
  exact setZN_cpu _ _

theorem opAdc_eq : opAdc = addEffect := by
  funext c m
  exact addWithCarry_eq c m

theorem opSbc_eq : opSbc = subEffect := by
  funext c m
  exact subtractWithBorrow_eq c m

theorem opCmp_eq : opCmp = fun c m => compareEffect c c.a m := by
  funext c m
  exact compare_eq c c.a m

theorem opCpx_eq : opCpx = fun c m => compareEffect c c.x m := by
  funext c m
  exact compare_eq c c.x m

theorem opCpy_eq : opCpy = fun c m => compareEffect c c.y m := by
  funext c m
  exact compare_eq c c.y m

theorem opBit_eq : opBit = fun c m =>
    { c with p := { c.p with z := decide (c.a &&& m = 0#8), n := decide (128 ≤ m.toNat), v := decide (m.toNat / 64 % 2 = 1) } } := by
  funext c m
  exact congr (congrArg (fun n v => { c with p := { c.p with z := decide (c.a &&& m = 0#8), n := n, v := v } }) (bit_seven m))
    (bit_eq m 6)

theorem opAnc_eq : opAnc = fun c m => { c with a := c.a &&& m, p := { zn c.p (c.a &&& m) with c := topBit (c.a &&& m) } } := by
  funext c m
  unfold opAnc Cpu.setC Cpu.setP
  rw [opAnd_eq, bit_seven]
  rfl

theorem opAlr_eq : opAlr = fun c m =>
    { c with a := lsrResult (c.a &&& m), p := { zn c.p (lsrResult (c.a &&& m)) with c := lowBit (c.a &&& m) } } := by
  funext c m
  unfold opAlr
  rw [lsr_eq]
  exact setZN_cpu _ _

theorem opArr_eq : opArr = fun c m =>
    { c with
      a := rorResult c.p.c (c.a &&& m)
      p := { zn c.p (rorResult c.p.c (c.a &&& m)) with
        c := decide ((rorResult c.p.c (c.a &&& m)).toNat / 64 % 2 = 1)
        v := decide ((rorResult c.p.c (c.a &&& m)).toNat / 64 % 2 ≠ (rorResult c.p.c (c.a &&& m)).toNat / 32 % 2) } } := by
  funext c m
  have hv : ∀ r : Byte, (bit r 6 ^^ bit r 5) = decide (r.toNat / 64 % 2 ≠ r.toNat / 32 % 2) := by
    intro r
    have hxor : ∀ p q : Bool, (p ^^ q) = decide (p ≠ q) := by decide
    rw [bit_eq, bit_eq, hxor]
    exact decide_eq_decide.mpr ((not_congr decide_eq_decide).trans (by omega))
  unfold opArr
  dsimp only
  rw [ror_eq]
  dsimp only
  rw [hv, bit_eq, setZN_cpu]
  rfl

theorem opSbx_eq : opSbx = fun c m =>
    { c with x := (c.a &&& c.x) - m
             p := { zn c.p ((c.a &&& c.x) - m) with c := decide (m.toNat ≤ (c.a &&& c.x).toNat) } } := by
  funext c m
  unfold opSbx
  dsimp only
  rw [setZN_cpu]
  rfl

theorem opAne_eq : opAne = fun c m =>
    { c with a := (c.a ||| Config.aneMagic) &&& c.x &&& m, p := zn c.p ((c.a ||| Config.aneMagic) &&& c.x &&& m) } := by
  funext c m
  exact setZN_cpu _ _

theorem opLxa_eq : opLxa = fun c m =>
    { c with a := (c.a ||| Config.lxaMagic) &&& m, x := (c.a ||| Config.lxaMagic) &&& m
             p := zn c.p ((c.a ||| Config.lxaMagic) &&& m) } := by
  funext c m
  exact setZN_cpu _ _

/-! ### Read-modify-write class: the byte written and the register file -/

theorem opInc_eq : opInc = fun c m => (byte (m.toNat + 1), { c with p := zn c.p (byte (m.toNat + 1)) }) := by
  funext c m
  unfold opInc
  rw [setZN_cpu, succ_eq]

theorem opDec_eq : opDec = fun c m => (byte (m.toNat + 255), { c with p := zn c.p (byte (m.toNat + 255)) }) := by
  funext c m
  unfold opDec
  rw [setZN_cpu, pred_eq]

/-- A shift's flags: C from the bit shifted out, Z and N from the result (R260). -/
theorem shiftFlags_eq (c : Cpu) (r : Byte) (k : Bool) : shiftFlags c (r, k) = { c with p := { zn c.p r with c := k } } := by
  unfold shiftFlags
  rw [setZN_cpu]
  rfl

theorem opAsl_eq : opAsl = fun c m => (aslResult m, { c with p := { zn c.p (aslResult m) with c := topBit m } }) := by
  funext c m
  unfold opAsl
  rw [asl_eq, shiftFlags_eq]

theorem opLsr_eq : opLsr = fun c m => (lsrResult m, { c with p := { zn c.p (lsrResult m) with c := lowBit m } }) := by
  funext c m
  unfold opLsr
  rw [lsr_eq, shiftFlags_eq]

theorem opRol_eq : opRol = fun c m =>
    (rolResult c.p.c m, { c with p := { zn c.p (rolResult c.p.c m) with c := topBit m } }) := by
  funext c m
  unfold opRol
  rw [rol_eq, shiftFlags_eq]

theorem opRor_eq : opRor = fun c m =>
    (rorResult c.p.c m, { c with p := { zn c.p (rorResult c.p.c m) with c := lowBit m } }) := by
  funext c m
  unfold opRor
  rw [ror_eq, shiftFlags_eq]

theorem opDcp_eq : opDcp = fun c m => (byte (m.toNat + 255), compareEffect c c.a (byte (m.toNat + 255))) := by
  funext c m
  unfold opDcp
  rw [compare_eq, pred_eq]

theorem opIsb_eq : opIsb = fun c m => (byte (m.toNat + 1), subEffect c (byte (m.toNat + 1))) := by
  funext c m
  unfold opIsb
  rw [subtractWithBorrow_eq, succ_eq]

theorem opSlo_eq : opSlo = fun c m =>
    (aslResult m, { c with a := c.a ||| aslResult m, p := { zn c.p (c.a ||| aslResult m) with c := topBit m } }) := by
  funext c m
  unfold opSlo
  rw [asl_eq, opOra_eq]
  rfl

theorem opRla_eq : opRla = fun c m =>
    (rolResult c.p.c m,
      { c with a := c.a &&& rolResult c.p.c m, p := { zn c.p (c.a &&& rolResult c.p.c m) with c := topBit m } }) := by
  funext c m
  unfold opRla
  rw [rol_eq, opAnd_eq]
  rfl

theorem opSre_eq : opSre = fun c m =>
    (lsrResult m, { c with a := c.a ^^^ lsrResult m, p := { zn c.p (c.a ^^^ lsrResult m) with c := lowBit m } }) := by
  funext c m
  unfold opSre
  rw [lsr_eq, opEor_eq]
  rfl

theorem opRra_eq : opRra = fun c m => (rorResult c.p.c m, addEffect (withCarry c (lowBit m)) (rorResult c.p.c m)) := by
  funext c m
  unfold opRra
  rw [ror_eq, addWithCarry_eq]
  rfl

/-! ### Implied mode -/

theorem opTax_eq : opTax = fun c => { c with x := c.a, p := zn c.p c.a } := by
  funext c
  exact setZN_cpu _ _

theorem opTay_eq : opTay = fun c => { c with y := c.a, p := zn c.p c.a } := by
  funext c
  exact setZN_cpu _ _

theorem opTxa_eq : opTxa = fun c => { c with a := c.x, p := zn c.p c.x } := by
  funext c
  exact setZN_cpu _ _

theorem opTya_eq : opTya = fun c => { c with a := c.y, p := zn c.p c.y } := by
  funext c
  exact setZN_cpu _ _

theorem opTsx_eq : opTsx = fun c => { c with x := c.sp, p := zn c.p c.sp } := by
  funext c
  exact setZN_cpu _ _

theorem opInx_eq : opInx = fun c => { c with x := byte (c.x.toNat + 1), p := zn c.p (byte (c.x.toNat + 1)) } := by
  funext c
  unfold opInx
  rw [setZN_cpu, succ_eq]
  rfl

theorem opIny_eq : opIny = fun c => { c with y := byte (c.y.toNat + 1), p := zn c.p (byte (c.y.toNat + 1)) } := by
  funext c
  unfold opIny
  rw [setZN_cpu, succ_eq]
  rfl

theorem opDex_eq : opDex = fun c => { c with x := byte (c.x.toNat + 255), p := zn c.p (byte (c.x.toNat + 255)) } := by
  funext c
  unfold opDex
  rw [setZN_cpu, pred_eq]
  rfl

theorem opDey_eq : opDey = fun c => { c with y := byte (c.y.toNat + 255), p := zn c.p (byte (c.y.toNat + 255)) } := by
  funext c
  unfold opDey
  rw [setZN_cpu, pred_eq]
  rfl

end Sys2Proof.Machine
end

section
/-! Instructions by their shape: what a completion of each access class leaves, then the instructions of the read, write,
read-modify-write and register classes (R176 to R189). -/

namespace Sys2Proof.Machine

open Claims hiding pixelIndex

/-! ### Register class -/

/-- An implied-mode instruction, from the operation of its arm. -/
theorem implied_of_exec {i : Instr} {f effect : Cpu → Cpu} (hf : f = effect) (hpc : ∀ c, (effect c).pc = c.pc := by intros; rfl)
    (h : ∀ s, exec i s = impliedInstr f s := by intros; rfl) : Implied i effect := by
  subst hf
  intro s
  refine onRegisters_of_exec_eq ?_
  rw [h, impliedInstr_eq, hpc]
  rfl

/-- An immediate-mode instruction, from the operation of its arm. -/
theorem immediate_of_exec {i : Byte → Instr} {f effect : Cpu → Byte → Cpu} (hf : f = effect)
    (hpc : ∀ c m, (effect c m).pc = c.pc := by intros; rfl)
    (h : ∀ d s, exec (i d) s = immediate 2 f d s := by intros; rfl) : Immediate i effect := by
  subst hf
  intro s d
  refine onRegisters_of_exec_eq ?_
  rw [h, immediate_eq, hpc]
  rfl

/-! ### Read class -/

/-- A completion with one data read: the byte is read in the state `u` that addressing leaves. -/
theorem reads_of_exec {i : Instr} {s u : State} {ea : Word} {len cycles : Nat} {f effect : Cpu → Byte → Cpu} (hf : f = effect)
    (hpc : ∀ c m, (effect c m).pc = c.pc) (h : exec i s = readInstr len cycles f ea u) (hu : ReadFrame s u) :
    Reads i s ea u len cycles effect := by
  subst hf
  rw [readInstr_eq, hu.cpu, hpc] at h
  have hplain : ∀ x, plainSite ea = some x → (memRead ea u).1 = s.site x := fun x hx =>
    (memRead_plain ea u x hx).trans (hu.storage x)
  obtain ⟨t, hexec, hcpu, hrest, hcycles, hstorage, hkept⟩ := completes_of_exec_eq h (hu.trans (memRead_frame ea u))
  exact ⟨t, hexec, hcpu, hplain, hrest, hcycles, hstorage, hkept⟩

section
variable {f effect : Cpu → Byte → Cpu} (hf : f = effect)
include hf

theorem readsZeropage_of_exec {i : Byte → Instr} (hpc : ∀ c m, (effect c m).pc = c.pc := by intros; rfl)
    (h : ∀ d s, exec (i d) s = readInstr 2 3 f (zeropage d) s := by intros; rfl) : ReadsZeropage i effect :=
  fun s d => reads_of_exec hf hpc (h d s) (ReadFrame.refl s)

theorem readsZeropageX_of_exec {i : Byte → Instr} (hpc : ∀ c m, (effect c m).pc = c.pc := by intros; rfl)
    (h : ∀ d s, exec (i d) s = readInstr 2 4 f (zeropageIndexed d s.cpu.x) s := by intros; rfl) : ReadsZeropageX i effect :=
  fun s d => reads_of_exec hf hpc (h d s) (ReadFrame.refl s)

theorem readsZeropageY_of_exec {i : Byte → Instr} (hpc : ∀ c m, (effect c m).pc = c.pc := by intros; rfl)
    (h : ∀ d s, exec (i d) s = readInstr 2 4 f (zeropageIndexed d s.cpu.y) s := by intros; rfl) : ReadsZeropageY i effect :=
  fun s d => reads_of_exec hf hpc (h d s) (ReadFrame.refl s)

theorem readsAbsolute_of_exec {i : Word → Instr} (hpc : ∀ c m, (effect c m).pc = c.pc := by intros; rfl)
    (h : ∀ w s, exec (i w) s = readInstr 3 4 f w s := by intros; rfl) : ReadsAbsolute i effect :=
  fun s w => reads_of_exec hf hpc (h w s) (ReadFrame.refl s)

theorem readsAbsoluteX_of_exec {i : Word → Instr} (hpc : ∀ c m, (effect c m).pc = c.pc := by intros; rfl)
    (h : ∀ w s, exec (i w) s = readIndexed 3 4 f (indexNormal w s.cpu.x s) := by intros; rfl) : ReadsAbsoluteX i effect :=
  fun s w => reads_of_exec hf hpc (h w s) (indexNormal_frame w s.cpu.x s)

theorem readsAbsoluteY_of_exec {i : Word → Instr} (hpc : ∀ c m, (effect c m).pc = c.pc := by intros; rfl)
    (h : ∀ w s, exec (i w) s = readIndexed 3 4 f (indexNormal w s.cpu.y s) := by intros; rfl) : ReadsAbsoluteY i effect :=
  fun s w => reads_of_exec hf hpc (h w s) (indexNormal_frame w s.cpu.y s)

theorem readsIndirectX_of_exec {i : Byte → Instr} (hpc : ∀ c m, (effect c m).pc = c.pc := by intros; rfl)
    (h : ∀ d s, exec (i d) s = readInstr 2 6 f (indirectX d s).1 (indirectX d s).2 := by intros; rfl) : ReadsIndirectX i effect :=
  fun s d => reads_of_exec hf hpc (h d s) (indirectX_frame d s)

theorem readsIndirectY_of_exec {i : Byte → Instr} (hpc : ∀ c m, (effect c m).pc = c.pc := by intros; rfl)
    (h : ∀ d s, exec (i d) s = readIndexed 2 5 f (indirectYNormal d s) := by intros; rfl) : ReadsIndirectY i effect :=
  fun s d => reads_of_exec hf hpc (h d s) (indirectYNormal_frame d s)

/-- The eight forms of one operation. -/
theorem eightReads_of_exec {imm zp zpx : Byte → Instr} {abs absx absy : Word → Instr} {indx indy : Byte → Instr}
    (hpc : ∀ c m, (effect c m).pc = c.pc := by intros; rfl)
    (himm : ∀ d s, exec (imm d) s = immediate 2 f d s := by intros; rfl)
    (hzp : ∀ d s, exec (zp d) s = readInstr 2 3 f (zeropage d) s := by intros; rfl)
    (hzpx : ∀ d s, exec (zpx d) s = readInstr 2 4 f (zeropageIndexed d s.cpu.x) s := by intros; rfl)
    (habs : ∀ w s, exec (abs w) s = readInstr 3 4 f w s := by intros; rfl)
    (habsx : ∀ w s, exec (absx w) s = readIndexed 3 4 f (indexNormal w s.cpu.x s) := by intros; rfl)
    (habsy : ∀ w s, exec (absy w) s = readIndexed 3 4 f (indexNormal w s.cpu.y s) := by intros; rfl)
    (hindx : ∀ d s, exec (indx d) s = readInstr 2 6 f (indirectX d s).1 (indirectX d s).2 := by intros; rfl)
    (hindy : ∀ d s, exec (indy d) s = readIndexed 2 5 f (indirectYNormal d s) := by intros; rfl) :
    EightReads imm zp zpx abs absx absy indx indy effect :=
  ⟨immediate_of_exec hf hpc himm, readsZeropage_of_exec hf hpc hzp, readsZeropageX_of_exec hf hpc hzpx,
    readsAbsolute_of_exec hf hpc habs, readsAbsoluteX_of_exec hf hpc habsx, readsAbsoluteY_of_exec hf hpc habsy,
    readsIndirectX_of_exec hf hpc hindx, readsIndirectY_of_exec hf hpc hindy⟩

end

/-! ### Write class -/

/-- A completion with one write in the state `u` that addressing leaves. -/
theorem writes_of_exec_eq {i : Instr} {s u : State} {ea : Word} {v : Byte} {cycles : Nat} {c : Cpu}
    (h : exec i s = .next ((tick cycles (memWrite ea v u)).setCpu c)) (hu : ReadFrame s u) (hreached : Reached s u) :
    Writes i s ea u v cycles c := by
  have hw := memWrite_frame ea v u
  have ht := tick_frame cycles (memWrite ea v u)
  have hafter : SameStorage (memWrite ea v u) ((tick cycles (memWrite ea v u)).setCpu c) :=
    ht.storage.trans (SameStorage.setCpu _ _)
  have hcycles : (tick cycles (memWrite ea v u)).cycles = s.cycles + cycles := by rw [tick_cycles, hw.cycles, hu.cycles]
  refine ⟨_, h, rfl, .after (.before hu.storage (memWrite_storage ea v u)) hafter, fun hI x hx => ?_, rfl, hcycles,
    (hu.fixed.trans hw.fixed).trans ht.fixed, (ht.jammed.trans hw.jammed).trans hu.jammed⟩
  rw [hafter x, memWrite_plain ea v u (hreached.inv hI) x hx]

theorem writes_of_exec {i : Instr} {s u : State} {ea : Word} {v : Byte} {len cycles : Nat}
    (h : exec i s = writeInstr len cycles ea v u) (hu : ReadFrame s u) (hreached : Reached s u) :
    Writes i s ea u v cycles (past s.cpu len) := by
  rw [writeInstr_eq, hu.cpu] at h
  exact writes_of_exec_eq h hu hreached

section
variable {v : Cpu → Byte}

theorem writesZeropage_of_exec {i : Byte → Instr}
    (h : ∀ d s, exec (i d) s = writeInstr 2 3 (zeropage d) (v s.cpu) s := by intros; rfl) : WritesZeropage i v :=
  fun s d => writes_of_exec (h d s) (ReadFrame.refl s) (Reached.refl s)

theorem writesZeropageX_of_exec {i : Byte → Instr}
    (h : ∀ d s, exec (i d) s = writeInstr 2 4 (zeropageIndexed d s.cpu.x) (v s.cpu) s := by intros; rfl) : WritesZeropageX i v :=
  fun s d => writes_of_exec (h d s) (ReadFrame.refl s) (Reached.refl s)

theorem writesZeropageY_of_exec {i : Byte → Instr}
    (h : ∀ d s, exec (i d) s = writeInstr 2 4 (zeropageIndexed d s.cpu.y) (v s.cpu) s := by intros; rfl) : WritesZeropageY i v :=
  fun s d => writes_of_exec (h d s) (ReadFrame.refl s) (Reached.refl s)

theorem writesAbsolute_of_exec {i : Word → Instr}
    (h : ∀ w s, exec (i w) s = writeInstr 3 4 w (v s.cpu) s := by intros; rfl) : WritesAbsolute i v :=
  fun s w => writes_of_exec (h w s) (ReadFrame.refl s) (Reached.refl s)

theorem writesIndirectX_of_exec {i : Byte → Instr}
    (h : ∀ d s, exec (i d) s = writeInstr 2 6 (indirectX d s).1 (v s.cpu) (indirectX d s).2 := by intros; rfl) :
    WritesIndirectX i v :=
  fun s d => writes_of_exec (h d s) (indirectX_frame d s) (Reached.indirectX d s)

end

/-! ### Read-modify-write class -/

/-- A completion with one read and then one write at the same address. -/
theorem modifies_of_exec {i : Instr} {s u : State} {ea : Word} {len cycles : Nat} {f : Cpu → Byte → Byte × Cpu}
    {result : Cpu → Byte → Byte} {effect : Cpu → Byte → Cpu} (hf : f = fun c m => (result c m, effect c m))
    (hpc : ∀ c m, (effect c m).pc = c.pc) (h : exec i s = modifyInstr len cycles f ea u) (hu : ReadFrame s u)
    (hreached : Reached s u) : Modifies i s ea u len cycles result effect := by
  subst hf
  rw [modifyInstr_eq, hu.cpu, hpc] at h
  have hplain : ∀ x, plainSite ea = some x → (memRead ea u).1 = s.site x := fun x hx =>
    (memRead_plain ea u x hx).trans (hu.storage x)
  obtain ⟨t, hexec, hcpu, hstorage, hwritten, hrest, hcycles, hkept⟩ :=
    writes_of_exec_eq h (hu.trans (memRead_frame ea u)) (hreached.memRead ea)
  exact ⟨t, hexec, hcpu, hstorage, fun x hx => ⟨hplain x hx, fun hI => hwritten hI x hx⟩, by rw [hcpu]; exact hrest, hcycles, hkept⟩

section
variable {f : Cpu → Byte → Byte × Cpu} {result : Cpu → Byte → Byte} {effect : Cpu → Byte → Cpu}
  (hf : f = fun c m => (result c m, effect c m))
include hf

/-- The four forms of one operation. -/
theorem fourModifies_of_exec {zp zpx : Byte → Instr} {abs absx : Word → Instr}
    (hpc : ∀ c m, (effect c m).pc = c.pc := by intros; rfl)
    (hzp : ∀ d s, exec (zp d) s = modifyInstr 2 5 f (zeropage d) s := by intros; rfl)
    (hzpx : ∀ d s, exec (zpx d) s = modifyInstr 2 6 f (zeropageIndexed d s.cpu.x) s := by intros; rfl)
    (habs : ∀ w s, exec (abs w) s = modifyInstr 3 6 f w s := by intros; rfl)
    (habsx : ∀ w s, exec (absx w) s = modifyInstr 3 7 f (indexForced w s.cpu.x s).1.ea (indexForced w s.cpu.x s).2 := by
      intros; rfl) :
    FourModifies zp zpx abs absx result effect :=
  ⟨fun s d => modifies_of_exec hf hpc (hzp d s) (ReadFrame.refl s) (Reached.refl s),
    fun s d => modifies_of_exec hf hpc (hzpx d s) (ReadFrame.refl s) (Reached.refl s),
    fun s w => modifies_of_exec hf hpc (habs w s) (ReadFrame.refl s) (Reached.refl s),
    fun s w => modifies_of_exec hf hpc (habsx w s) (indexForced_frame w s.cpu.x s) (Reached.indexForced w s.cpu.x s)⟩

/-- The seven forms of one operation. -/
theorem sevenModifies_of_exec {zp zpx : Byte → Instr} {abs absx absy : Word → Instr} {indx indy : Byte → Instr}
    (hpc : ∀ c m, (effect c m).pc = c.pc := by intros; rfl)
    (hzp : ∀ d s, exec (zp d) s = modifyInstr 2 5 f (zeropage d) s := by intros; rfl)
    (hzpx : ∀ d s, exec (zpx d) s = modifyInstr 2 6 f (zeropageIndexed d s.cpu.x) s := by intros; rfl)
    (habs : ∀ w s, exec (abs w) s = modifyInstr 3 6 f w s := by intros; rfl)
    (habsx : ∀ w s, exec (absx w) s = modifyInstr 3 7 f (indexForced w s.cpu.x s).1.ea (indexForced w s.cpu.x s).2 := by
      intros; rfl)
    (habsy : ∀ w s, exec (absy w) s = modifyInstr 3 7 f (indexForced w s.cpu.y s).1.ea (indexForced w s.cpu.y s).2 := by
      intros; rfl)
    (hindx : ∀ d s, exec (indx d) s = modifyInstr 2 8 f (indirectX d s).1 (indirectX d s).2 := by intros; rfl)
    (hindy : ∀ d s, exec (indy d) s = modifyInstr 2 8 f (indirectYForced d s).1.ea (indirectYForced d s).2 := by
      intros; rfl) :
    SevenModifies zp zpx abs absx absy indx indy result effect :=
  ⟨fourModifies_of_exec hf hpc hzp hzpx habs habsx,
    fun s w => modifies_of_exec hf hpc (habsy w s) (indexForced_frame w s.cpu.y s) (Reached.indexForced w s.cpu.y s),
    fun s d => modifies_of_exec hf hpc (hindx d s) (indirectX_frame d s) (Reached.indirectX d s),
    fun s d => modifies_of_exec hf hpc (hindy d s) (indirectYForced_frame d s) (Reached.indirectYForced d s)⟩

end

/-- The accumulator form of a shift is an implied-mode instruction: the byte shifted is A, and the result goes to A (R186). -/
theorem implied_of_exec_accumulator {i : Instr} {f : Cpu → Byte → Byte × Cpu} {effect : Cpu → Cpu}
    (hf : (fun c => (f c c.a).2.setA (f c c.a).1) = effect) (hpc : ∀ c, (effect c).pc = c.pc := by intros; rfl)
    (h : ∀ s, exec i s = modifyAccumulator f s := by intros; rfl) : Implied i effect :=
  implied_of_exec hf hpc h

/-! ### The instructions of these classes -/

/-- Settles O1: the operation of the eight arms is LDA. -/
theorem ldaLoadsA : Obligations.LdaLoadsA := eightReads_of_exec opLda_eq

/-- Settles O2: LDX indexes with Y where LDY indexes with X. -/
theorem ldxLdyLoadIndex : Obligations.LdxLdyLoadIndex :=
  ⟨immediate_of_exec opLdx_eq, readsZeropage_of_exec opLdx_eq, readsZeropageY_of_exec opLdx_eq, readsAbsolute_of_exec opLdx_eq,
    readsAbsoluteY_of_exec opLdx_eq,
    immediate_of_exec opLdy_eq, readsZeropage_of_exec opLdy_eq, readsZeropageX_of_exec opLdy_eq, readsAbsolute_of_exec opLdy_eq,
    readsAbsoluteX_of_exec opLdy_eq⟩

/-- Settles O3: four forms by their mode's lemma; the three indexed ones make the forced dummy read first. -/
theorem staStoresA : Obligations.StaStoresA :=
  ⟨writesZeropage_of_exec, writesZeropageX_of_exec, writesAbsolute_of_exec, writesIndirectX_of_exec,
    fun s w => writes_of_exec rfl (indexForced_frame w s.cpu.x s) (Reached.indexForced w s.cpu.x s),
    fun s w => writes_of_exec rfl (indexForced_frame w s.cpu.y s) (Reached.indexForced w s.cpu.y s),
    fun s d => writes_of_exec rfl (indirectYForced_frame d s) (Reached.indirectYForced d s)⟩

/-- Settles O4: the byte stored is a function of the registers before the write. -/
theorem stxStySaxStore : Obligations.StxStySaxStore :=
  ⟨writesZeropage_of_exec, writesZeropageY_of_exec, writesAbsolute_of_exec,
    writesZeropage_of_exec, writesZeropageX_of_exec, writesAbsolute_of_exec,
    writesZeropage_of_exec, writesZeropageY_of_exec, writesAbsolute_of_exec, writesIndirectX_of_exec⟩

/-- Settles O5: the six operations on the register file. -/
theorem transfersMoveRegisters : Obligations.TransfersMoveRegisters :=
  ⟨implied_of_exec opTax_eq, implied_of_exec opTay_eq, implied_of_exec opTxa_eq, implied_of_exec opTya_eq,
    implied_of_exec opTsx_eq, implied_of_exec (f := opTxs) rfl⟩

/-- Settles O6: the model's adder is addition of numbers (`addWithCarry_eq`). -/
theorem adcAdds : Obligations.AdcAdds := eightReads_of_exec opAdc_eq

/-- Settles O7: adding the complement is subtracting with borrow (`addEffect_complement`). -/
theorem sbcSubtracts : Obligations.SbcSubtracts := ⟨eightReads_of_exec opSbc_eq, immediate_of_exec opSbc_eq⟩

/-- Settles O8: the three operations in their eight forms. -/
theorem logicCombinesA : Obligations.LogicCombinesA :=
  ⟨eightReads_of_exec opAnd_eq, eightReads_of_exec opOra_eq, eightReads_of_exec opEor_eq⟩

/-- Settles O9: the model's comparator compares numbers (`compare_eq`). -/
theorem comparesSetFlags : Obligations.ComparesSetFlags :=
  ⟨eightReads_of_exec opCmp_eq, immediate_of_exec opCpx_eq, readsZeropage_of_exec opCpx_eq, readsAbsolute_of_exec opCpx_eq,
    immediate_of_exec opCpy_eq, readsZeropage_of_exec opCpy_eq, readsAbsolute_of_exec opCpy_eq⟩

/-- Settles O10: N and V are the top two bits of the operand. -/
theorem bitTestsOperand : Obligations.BitTestsOperand := ⟨readsZeropage_of_exec opBit_eq, readsAbsolute_of_exec opBit_eq⟩

/-- Settles O11: the byte written is the one read, plus one or plus 255. -/
theorem incDecMemory : Obligations.IncDecMemory := ⟨fourModifies_of_exec opInc_eq, fourModifies_of_exec opDec_eq⟩

/-- Settles O12: the four operations on the register file. -/
theorem incDecIndex : Obligations.IncDecIndex :=
  ⟨implied_of_exec opInx_eq, implied_of_exec opIny_eq, implied_of_exec opDex_eq, implied_of_exec opDey_eq⟩

/-- Settles O13: the model's shifts are doubling and halving (`asl_eq` to `ror_eq`). -/
theorem shiftsAndRotates : Obligations.ShiftsAndRotates :=
  ⟨fourModifies_of_exec opAsl_eq, fourModifies_of_exec opLsr_eq, fourModifies_of_exec opRol_eq, fourModifies_of_exec opRor_eq,
    implied_of_exec_accumulator (f := opAsl) (by rw [opAsl_eq]; rfl), implied_of_exec_accumulator (f := opLsr) (by rw [opLsr_eq]; rfl),
    implied_of_exec_accumulator (f := opRol) (by rw [opRol_eq]; rfl), implied_of_exec_accumulator (f := opRor) (by rw [opRor_eq]; rfl)⟩

/-- Settles O22: the seven operations on the register file. -/
theorem flagInstructions : Obligations.FlagInstructions :=
  ⟨implied_of_exec (f := opClc) rfl, implied_of_exec (f := opSec) rfl, implied_of_exec (f := opCli) rfl,
    implied_of_exec (f := opSei) rfl, implied_of_exec (f := opCld) rfl, implied_of_exec (f := opSed) rfl,
    implied_of_exec (f := opClv) rfl⟩

/-- Settles O24: LAX in its six forms, and LAS. -/
theorem laxLasLoadSeveral : Obligations.LaxLasLoadSeveral :=
  ⟨readsZeropage_of_exec opLax_eq, readsZeropageY_of_exec opLax_eq, readsAbsolute_of_exec opLax_eq, readsAbsoluteY_of_exec opLax_eq,
    readsIndirectX_of_exec opLax_eq, readsIndirectY_of_exec opLax_eq, readsAbsoluteY_of_exec opLas_eq⟩

/-- Settles O25: the byte changed by one, then the comparator or the subtraction. -/
theorem dcpIsbCombine : Obligations.DcpIsbCombine := ⟨sevenModifies_of_exec opDcp_eq, sevenModifies_of_exec opIsb_eq⟩

/-- Settles O26: the byte shifted, then combined with A. -/
theorem shiftCombinations : Obligations.ShiftCombinations :=
  ⟨sevenModifies_of_exec opSlo_eq, sevenModifies_of_exec opRla_eq, sevenModifies_of_exec opSre_eq, sevenModifies_of_exec opRra_eq⟩

/-- Settles O27: the four operations of the five encodings. -/
theorem immediateCombinations : Obligations.ImmediateCombinations :=
  ⟨immediate_of_exec opAnc_eq, immediate_of_exec opAnc_eq, immediate_of_exec opAlr_eq, immediate_of_exec opArr_eq,
    immediate_of_exec opSbx_eq⟩

/-- Settles O28: no step of the proof looks at the two constants. -/
theorem aneLxaOpenConstant : Obligations.AneLxaOpenConstant := ⟨immediate_of_exec opAne_eq, immediate_of_exec opLxa_eq⟩

/-! ### NOP (R322, R344 to R347) -/

/-- Settles O23: each encoding is the shape of its mode with the operation that keeps the register file. -/
theorem nopsDoNothing : Obligations.NopsDoNothing := by
  have hf : opNop = fun c _ => c := rfl
  refine ⟨?_, ?_, ?_, ?_, readsAbsolute_of_exec hf, ?_⟩ <;> simp only [List.forall_mem_cons]
  · have hid : opImpliedNop = id := rfl
    exact ⟨implied_of_exec hid, implied_of_exec hid, implied_of_exec hid, implied_of_exec hid, implied_of_exec hid,
      implied_of_exec hid, implied_of_exec hid, List.forall_mem_nil _⟩
  · exact ⟨immediate_of_exec hf, immediate_of_exec hf, immediate_of_exec hf, immediate_of_exec hf, immediate_of_exec hf,
      List.forall_mem_nil _⟩
  · exact ⟨readsZeropage_of_exec hf, readsZeropage_of_exec hf, readsZeropage_of_exec hf, List.forall_mem_nil _⟩
  · exact ⟨readsZeropageX_of_exec hf, readsZeropageX_of_exec hf, readsZeropageX_of_exec hf, readsZeropageX_of_exec hf,
      readsZeropageX_of_exec hf, readsZeropageX_of_exec hf, List.forall_mem_nil _⟩
  · exact ⟨readsAbsoluteX_of_exec hf, readsAbsoluteX_of_exec hf, readsAbsoluteX_of_exec hf, readsAbsoluteX_of_exec hf,
      readsAbsoluteX_of_exec hf, readsAbsoluteX_of_exec hf, List.forall_mem_nil _⟩

/-! ### JAM (R365) -/

/-- The answer of a JAM opcode: the jammed flag set and nothing else. -/
theorem jam_of_exec {i : Instr} (h : ∀ s, exec i s = .next (s.setJammed true) := by intros; rfl) (s : State) :
    ∃ t, exec i s = .next t ∧ t.jammed = true ∧ t.cpu = s.cpu ∧ t.cycles = s.cycles ∧ SameStorage s t ∧ t.setJammed s.jammed = s :=
  ⟨_, h s, rfl, rfl, rfl, SameStorage.of_arrays rfl rfl rfl rfl rfl rfl rfl, rfl⟩

/-- Settles O30: the twelve arms are one and the same. -/
theorem jamJams : Obligations.JamJams := by
  unfold Obligations.JamJams
  simp only [List.forall_mem_cons]
  exact ⟨jam_of_exec, jam_of_exec, jam_of_exec, jam_of_exec, jam_of_exec, jam_of_exec, jam_of_exec, jam_of_exec, jam_of_exec,
    jam_of_exec, jam_of_exec, jam_of_exec, List.forall_mem_nil _⟩

end Sys2Proof.Machine
end

section
/-! Proofs about addressing (40_addressing_modes.md): what the model's address functions compute, as numbers, and the instructions
whose statements are about addresses: the branches and the unstable stores. -/

namespace Sys2Proof.Machine

open Claims hiding pixelIndex

/-! ### Bytes and words as numbers -/

theorem hi_eq_byte (w : Word) : hi w = byte (w.toNat / 256) := by
  have hw := w.isLt
  exact eq_byte_of_toNat (by rw [toNat_hi]; omega)

theorem lo_eq_byte (w : Word) : lo w = byte w.toNat := eq_byte_of_toNat (toNat_lo w)

/-- Two words lie on different pages when their numbers divided by 256 differ. -/
theorem decide_hi_ne (a b : Word) : decide (hi a ≠ hi b) = decide (a.toNat / 256 ≠ b.toNat / 256) := by
  rw [decide_eq_decide, ne_eq, ← BitVec.toNat_inj, toNat_hi, toNat_hi]

theorem toNat_zext (b : Byte) : (zext b).toNat = b.toNat := by
  unfold zext
  rw [BitVec.toNat_setWidth]
  exact Nat.mod_eq_of_lt (by have := b.isLt; omega)

theorem zext_eq (b : Byte) : zext b = BitVec.ofNat 16 b.toNat := by
  rw [← toNat_zext, BitVec.ofNat_toNat, BitVec.setWidth_eq]

theorem add_zext_eq (w : Word) (i : Byte) : w + zext i = BitVec.ofNat 16 (w.toNat + i.toNat) := by
  apply BitVec.eq_of_toNat_eq
  rw [BitVec.toNat_add, toNat_zext, BitVec.toNat_ofNat]

/-- The uncarried address keeps the page and adds the index inside it (R180, R183). -/
theorem uncarried_eq (w : Word) (i : Byte) :
    uncarried w i = BitVec.ofNat 16 (w.toNat / 256 * 256 + (w.toNat + i.toNat) % 256) := by
  have hlow : (lo w + i).toNat = (w.toNat + i.toNat) % 256 := by
    rw [BitVec.toNat_add, toNat_lo]
    omega
  unfold uncarried
  rw [word_eq_pair, pair, toNat_hi, hlow, Nat.mul_comm 256]

/-- The indexed address and its page crossing as numbers (R180, R183). -/
theorem indexed_eq (w : Word) (i : Byte) :
    indexed w i =
      { ea := BitVec.ofNat 16 (w.toNat + i.toNat)
        crossed := decide ((BitVec.ofNat 16 (w.toNat + i.toNat)).toNat / 256 ≠ w.toNat / 256)
        baseHi := hi w } := by
  unfold indexed
  rw [decide_hi_ne, add_zext_eq]

/-! ### The zero-page pointer (R182, R183) -/

/-- The two bytes behind a zero-page pointer, as a word. -/
def pointerWord (s : State) (p : Byte) : Word := pair (s.site (.ram ((p.toNat + 1) % 256))) (s.site (.ram p.toNat))

/-- The state the two pointer reads leave. -/
def pointerState (s : State) (p : Byte) : State :=
  (memRead (BitVec.ofNat 16 ((p.toNat + 1) % 256)) (memRead (BitVec.ofNat 16 p.toNat) s).2).2

theorem zeropagePointer_eq (p : Byte) (s : State) : zeropagePointer p s = (pointerWord s p, pointerState s p) := by
  refine Prod.ext ?_ ?_
  · rw [zeropagePointer_fst, word_eq_pair, BitVec.toNat_add]
    rfl
  · show (memRead (zext (p + 1)) (memRead (zext p) s).2).2 = _
    rw [zext_eq, zext_eq, BitVec.toNat_add]
    rfl

theorem pointerState_cpu (s : State) (p : Byte) : (pointerState s p).cpu = s.cpu := by
  unfold pointerState
  rw [memRead_cpu, memRead_cpu]

theorem indirectYNormal_eq (d : Byte) (s : State) :
    indirectYNormal d s = indexNormal (pointerWord s d) s.cpu.y (pointerState s d) := by
  unfold indirectYNormal
  rw [zeropagePointer_eq]
  dsimp only
  rw [pointerState_cpu]

theorem indirectYForced_eq (d : Byte) (s : State) :
    indirectYForced d s = indexForced (pointerWord s d) s.cpu.y (pointerState s d) := by
  unfold indirectYForced
  rw [zeropagePointer_eq]
  dsimp only
  rw [pointerState_cpu]

/-! ### The addressing modes (R176 to R183) -/

theorem toNat_zeropageIndexed (d i : Byte) : (zeropageIndexed d i).toNat = (d.toNat + i.toNat) % 256 := by
  unfold zeropageIndexed
  rw [toNat_zext, BitVec.toNat_add]

theorem indexNormal_eq (w : Word) (i : Byte) (s : State) :
    indexNormal w i s = (indexed w i, if (indexed w i).crossed then (memRead (uncarried w i) s).2 else s) := rfl

theorem indexForced_eq (w : Word) (i : Byte) (s : State) : indexForced w i s = (indexed w i, (memRead (uncarried w i) s).2) := rfl

/-- Settles O31: one equation for each mode. -/
theorem effectiveAddresses : Obligations.EffectiveAddresses := by
  refine ⟨toNat_zext, toNat_zeropageIndexed, fun w i s => ?_, fun d s => ?_, fun w s => indirect_eq w s⟩
  · rw [indexNormal_eq, indexForced_eq, indexed_eq, uncarried_eq]
    exact ⟨rfl, rfl, rfl, rfl, rfl, rfl⟩
  · have hx : indirectX d s = (pointerWord s (d + s.cpu.x), pointerState s (d + s.cpu.x)) := zeropagePointer_eq _ s
    rw [hx, indirectYNormal_eq, indirectYForced_eq, indexNormal_eq, indexForced_eq, indexed_eq, uncarried_eq]
    exact ⟨rfl, rfl, rfl, rfl, rfl, rfl, rfl, rfl⟩

/-! ### Branches (R185, R286) -/

theorem branchTarget_eq (pc : Word) (d : Byte) : branchTarget pc d = BitVec.ofInt 16 (((pc + 2).toNat : Int) + d.toInt) := by
  unfold branchTarget sext BitVec.signExtend
  rw [BitVec.ofInt_add, BitVec.ofInt_natCast, BitVec.ofNat_toNat, BitVec.setWidth_eq]

/-- A branch, from the condition of its arm. -/
theorem branches_of_exec {i : Byte → Instr} {cond : Flags → Bool}
    (h : ∀ d s, exec (i d) s = branch (cond s.cpu.p) d s := by intros; rfl) : Branches i cond := by
  intro s d
  have hexec := h d s
  unfold branch at hexec
  dsimp only
  cases hcond : cond s.cpu.p with
  | false =>
    rw [hcond] at hexec
    refine onRegisters_of_exec_eq ?_
    rw [hexec]
    exact finish_eq 2 2 s
  | true =>
    have hcycles : 2 + (1 + bitNat (branchCrossed s.cpu.pc d)) =
        if (branchTarget s.cpu.pc d).toNat / 256 = (s.cpu.pc + 2).toNat / 256 then 3 else 4 := by
      unfold branchCrossed
      rw [decide_hi_ne, decide_not]
      split
      next hpage => rw [decide_eq_true hpage]; rfl
      next hpage => rw [decide_eq_false hpage]; rfl
    rw [hcond, if_pos rfl, finishJump_setCpu, hcycles, branchTarget_eq] at hexec
    exact onRegisters_of_exec_eq hexec

/-- Settles O19: eight conditions on one shape. -/
theorem branchesTaken : Obligations.BranchesTaken :=
  ⟨branches_of_exec, branches_of_exec, branches_of_exec, branches_of_exec, branches_of_exec, branches_of_exec, branches_of_exec,
    branches_of_exec⟩

/-! ### Unstable stores (R350 to R353) -/

theorem unstableTarget_eq (r : Resolved) (v : Byte) :
    unstableTarget r v = if r.crossed then pair v (byte r.ea.toNat) else r.ea := by
  unfold unstableTarget
  rw [word_eq_pair, lo_eq_byte]

/-- An unstable store, from its arm: `v` is the byte of the registers and the base's high byte. -/
theorem unstableStore_of_exec {i : Instr} {s : State} {r : Resolved × State} {len cycles : Nat} {f : Cpu → Byte → Byte} {v : Byte}
    (h : exec i s = unstableStore len cycles f r) (hu : ReadFrame s r.2) (hreached : Reached s r.2) (hv : f s.cpu r.1.baseHi = v) :
    UnstableStore i s r v cycles (past s.cpu len) := by
  subst hv
  unfold UnstableStore
  rw [← unstableTarget_eq]
  refine writes_of_exec ?_ hu hreached
  rw [h, ← hu.cpu]
  rfl

theorem hi_succ_eq (w : Word) : hi w + 1 = byte (w.toNat / 256 + 1) := by
  rw [succ_eq, toNat_hi]

/-- The high byte of the word behind a zero-page pointer is the cell after the pointer's, inside page zero. -/
theorem hi_pointerWord (s : State) (d : Byte) : hi (pointerWord s d) = s.site (.ram ((d.toNat + 1) % 256)) := by
  unfold pointerWord
  rw [← word_eq_pair, hi_word]

theorem exec_tasAbsoluteY_eq (w : Word) (s : State) :
    exec (.tasAbsoluteY w) s =
      .next ((tick 5 (memWrite (unstableTarget (indexForced w s.cpu.y s).1 (tasByte s.cpu (hi w))) (tasByte s.cpu (hi w))
        (indexForced w s.cpu.y s).2)).setCpu { past s.cpu 3 with sp := s.cpu.a &&& s.cpu.x }) := by
  have hcpu := (indexForced_frame w s.cpu.y s).cpu
  have harm : exec (.tasAbsoluteY w) s =
      writeInstr 3 5 (unstableTarget (indexForced w s.cpu.y s).1 (tasByte (indexForced w s.cpu.y s).2.cpu (hi w)))
        (tasByte (indexForced w s.cpu.y s).2.cpu (hi w))
        ((indexForced w s.cpu.y s).2.setCpu ((indexForced w s.cpu.y s).2.cpu.setSp
          ((indexForced w s.cpu.y s).2.cpu.a &&& (indexForced w s.cpu.y s).2.cpu.x))) := rfl
  rw [harm, writeInstr_eq, hcpu, memWrite_setCpu, tick_setCpu, State.setCpu_setCpu]
  rfl

/-- Settles O29: the high byte of the base is that of the operand word, or for indirect_y of the pointer word. -/
theorem unstableStores : Obligations.UnstableStores := by
  refine ⟨fun s w => ?_, fun s d => ?_, fun s w => ?_, fun s w => ?_, fun s w => ?_⟩
  · exact unstableStore_of_exec (f := shaByte) rfl (indexForced_frame w s.cpu.y s) (Reached.indexForced w s.cpu.y s)
      (congrArg (s.cpu.a &&& s.cpu.x &&& ·) (hi_succ_eq w))
  · refine unstableStore_of_exec (f := shaByte) rfl (indirectYForced_frame d s) (Reached.indirectYForced d s) ?_
    have hbase : (indirectYForced d s).1.baseHi = s.site (.ram ((d.toNat + 1) % 256)) := by
      rw [indirectYForced_eq]
      exact hi_pointerWord s d
    rw [hbase, shaByte, succ_eq]
  · exact unstableStore_of_exec (f := shxByte) rfl (indexForced_frame w s.cpu.y s) (Reached.indexForced w s.cpu.y s)
      (congrArg (s.cpu.x &&& ·) (hi_succ_eq w))
  · exact unstableStore_of_exec (f := shyByte) rfl (indexForced_frame w s.cpu.x s) (Reached.indexForced w s.cpu.x s)
      (congrArg (s.cpu.y &&& ·) (hi_succ_eq w))
  · have hbyte : tasByte s.cpu (hi w) = s.cpu.a &&& s.cpu.x &&& byte (w.toNat / 256 + 1) :=
      congrArg (s.cpu.a &&& s.cpu.x &&& ·) (hi_succ_eq w)
    have hexec := exec_tasAbsoluteY_eq w s
    rw [hbyte, unstableTarget_eq] at hexec
    exact writes_of_exec_eq hexec (indexForced_frame w s.cpu.y s) (Reached.indexForced w s.cpu.y s)

end Sys2Proof.Machine
end

section
/-! Proofs about the stack (20_memory.md R104 to R107) and the instructions and entries that use it: JSR, RTS, RTI, BRK, PHA, PHP, PLA
and PLP. -/

namespace Sys2Proof.Machine

open Claims hiding pixelIndex

/-! ### Pushes and pulls (R104 to R107) -/

/-- A push puts its byte in the stack cell of SP. -/
theorem push_stackSite (b : Byte) (s : State) (hI : s.Inv) : (push b s).site (stackSite s.cpu.sp) = b := push_site b s hI

/-- A pull answers the stack cell of SP + 1. -/
theorem pop_stackSite (s : State) : (pop s).1 = s.site (stackSite (s.cpu.sp + 1)) := pop_fst s

theorem pop_push_cpu (b : Byte) (s : State) : (pop (push b s)).2.cpu = s.cpu := by
  rw [pop_cpu, push_cpu]
  show { s.cpu with sp := s.cpu.sp - 1 + 1 } = s.cpu
  rw [BitVec.sub_add_cancel]

theorem pop_push (b : Byte) (s : State) (hI : s.Inv) : (pop (push b s)).1 = b := by
  rw [pop_stackSite, push_cpu, Cpu.setSp_sp, BitVec.sub_add_cancel]
  exact push_stackSite b s hI

theorem pushWord_eq (w : Word) (s : State) : pushWord w s = push (byte w.toNat) (push (byte (w.toNat / 256)) s) := by
  unfold pushWord
  rw [hi_eq_byte, lo_eq_byte]

/-- After a pushed word, the first pull gives its low byte and the second its high byte. -/
theorem pop_pop_pushWord (w : Word) (s : State) (hI : s.Inv) :
    (pop (pushWord w s)).1 = lo w ∧ (pop (pop (pushWord w s)).2).1 = hi w := by
  refine ⟨pop_push (lo w) _ (hI.push (hi w)), ?_⟩
  have hcpu : (pop (pushWord w s)).2.cpu = (push (hi w) s).cpu := pop_push_cpu (lo w) (push (hi w) s)
  have hpushed := (pushWord_site w s hI).1
  rw [pop_stackSite, pop_storage, hcpu, push_cpu, Cpu.setSp_sp, BitVec.sub_add_cancel]
  exact hpushed

theorem popWord_pushWord (w : Word) (s : State) (hI : s.Inv) : (popWord (pushWord w s)).1 = w := by
  obtain ⟨hlow, hhigh⟩ := pop_pop_pushWord w s hI
  unfold popWord
  dsimp only
  rw [hlow, hhigh, word_hi_lo]

theorem popWord_pushWord_cpu (w : Word) (s : State) : (popWord (pushWord w s)).2.cpu = s.cpu := by
  rw [popWord_cpu, pushWord_cpu]
  show { s.cpu with sp := s.cpu.sp - 2 + 2 } = s.cpu
  rw [BitVec.sub_add_cancel]

/-- Settles O46: a push and a pull meet in one cell, whatever SP is, because SP counts modulo 256. -/
theorem stackRoundTrip : Obligations.StackRoundTrip := by
  refine ⟨fun s b => ⟨push_cpu b s, push_storage b s, fun hI => ⟨push_stackSite b s hI, pop_push b s hI, pop_push_cpu b s⟩⟩,
    fun s => ⟨pop_stackSite s, pop_cpu s, pop_storage s⟩, fun s w => ⟨pushWord_eq w s, fun hI => ?_⟩⟩
  obtain ⟨hlow, hhigh⟩ := pop_pop_pushWord w s hI
  exact ⟨hlow.trans (lo_eq_byte w), hhigh.trans (hi_eq_byte w), popWord_pushWord w s hI, popWord_pushWord_cpu w s⟩

/-! ### Completions after stack accesses -/

/-- What the end of an instruction leaves of the state `u` that its stack accesses leave. -/
structure StackCompletion (s u t : State) (cycles : Nat) : Prop where
  rest    : t = (tick cycles u).setCpu t.cpu
  cycles  : t.cycles = s.cycles + cycles
  storage : SameStorage u t
  port    : SamePort s t
  io      : t.io = s.io
  stall   : t.irq.stall = s.irq.stall
  kept    : Kept s t

theorem StackFrame.completion {s u : State} (h : StackFrame s u) (cycles : Nat) (c : Cpu) :
    StackCompletion s u ((tick cycles u).setCpu c) cycles := by
  have ht := tick_frame cycles u
  have hport : SamePort s (tick cycles u) := by
    have hp := ht.port
    unfold SamePort at hp ⊢
    rwa [h.ppu] at hp
  refine ⟨rfl, ?_, ht.storage.trans (SameStorage.setCpu _ _), hport, ht.io.trans h.io, ?_, h.fixed.trans ht.fixed,
    ht.jammed.trans h.jammed⟩
  · rw [State.setCpu_cycles, tick_cycles, h.cycles]
  · rw [State.setCpu_irq, ht.stall, h.irq]

/-- Stack accesses that change no cell complete quietly. -/
theorem StackCompletion.quiet {s u t : State} {cycles : Nat} (h : StackCompletion s u t cycles) (hu : SameStorage s u) :
    Quiet s u t cycles :=
  ⟨h.rest, h.cycles, hu.trans h.storage, h.port, h.io, h.stall, h.kept⟩

/-! ### PHA and PHP (R311, R313) -/

/-- A push instruction, from the byte of its arm. -/
theorem pushes_of_exec {i : Instr} {f v : Cpu → Byte} (hf : f = v)
    (h : ∀ s, exec i s = finish 1 3 (push (f s.cpu) s) := by intros; rfl) : Pushes i v := by
  subst hf
  intro s
  have hexec := h s
  rw [finish_eq, push_cpu] at hexec
  have hend := (push_frame (f s.cpu) s).completion 3 ((s.cpu.setSp (s.cpu.sp - 1)).setPc (s.cpu.pc + 1))
  exact ⟨_, hexec, rfl, .after (push_storage _ s) hend.storage,
    fun hI => (hend.storage _).trans (push_stackSite _ s hI), hend.rest, hend.cycles, hend.port, hend.io, hend.stall, hend.kept⟩

/-- Settles O20: PHA pushes A, PHP the status byte with the break bit. -/
theorem pushInstructions : Obligations.PushInstructions :=
  ⟨pushes_of_exec rfl, pushes_of_exec (f := fun c => c.p.toByte true) (funext fun c => toByte_eq_statusByte c.p true)⟩

/-! ### PLA and PLP (R312, R314) -/

/-- A pull instruction, from the operation of its arm: the operation keeps PC and does not look at SP. -/
theorem pulls_of_exec {i : Instr} {f effect : Cpu → Byte → Cpu} (hf : f = effect)
    (hsp : ∀ c m v, ((effect (c.setSp v) m).setPc ((effect (c.setSp v) m).pc + 1)) = { effect c m with sp := v, pc := c.pc + 1 } := by
      intros; rfl)
    (h : ∀ s, exec i s = finish 1 4 ((pop s).2.setCpu (f (pop s).2.cpu (pop s).1)) := by intros; rfl) : Pulls i effect := by
  subst hf
  intro s
  have hexec := h s
  rw [finish_setCpu, pop_cpu, pop_stackSite] at hexec
  exact ⟨_, hexec, hsp _ _ _, ((pop_frame s).completion 4 _).quiet (pop_storage s)⟩

/-- Settles O21: PLA is LDA of the byte pulled, PLP takes the flags from it. -/
theorem pullInstructions : Obligations.PullInstructions := by
  have hplp : (fun c m => c.setP (Flags.ofByte m)) = fun (c : Cpu) (m : Byte) => { c with p := statusFlags m } := by
    funext c m
    rw [ofByte_eq_statusFlags]
    rfl
  exact ⟨pulls_of_exec opLda_eq, pulls_of_exec hplp⟩

/-! ### JSR and RTS (R282, R283) -/

/-- Settles O15: the word pushed is PC + 2, high byte first. -/
theorem jsrPushesReturn : Obligations.JsrPushesReturn := by
  intro s w
  have hexec : exec (.jsr w) s = _ := finishJump_setCpu 6 (pushWord (s.cpu.pc + 2) s) ((pushWord (s.cpu.pc + 2) s).cpu.setPc w)
  rw [pushWord_cpu] at hexec
  have hend := (pushWord_frame (s.cpu.pc + 2) s).completion 6 ((s.cpu.setSp (s.cpu.sp - 2)).setPc w)
  refine ⟨_, hexec, rfl, .after (pushWord_storage _ s) hend.storage, fun hI => ?_, hend.rest, hend.cycles, hend.port, hend.io,
    hend.stall, hend.kept⟩
  obtain ⟨hhigh, hlow⟩ := pushWord_site (s.cpu.pc + 2) s hI
  exact ⟨(hend.storage _).trans (hhigh.trans (hi_eq_byte _)), (hend.storage _).trans (hlow.trans (lo_eq_byte _))⟩

/-- Settles O16: the word pulled is the pair of cells above SP. -/
theorem rtsReturns : Obligations.RtsReturns := by
  intro s
  have hexec : exec .rts s = _ := finishJump_setCpu 6 (popWord s).2 ((popWord s).2.cpu.setPc ((popWord s).1 + 1))
  rw [popWord_cpu, popWord_fst, word_eq_pair] at hexec
  exact ⟨_, hexec, rfl, ((popWord_frame s).completion 6 _).quiet (popWord_storage s)⟩

/-! ### RTI (R284) -/

/-- A pull looks at SP alone of the register file. -/
theorem pop_setCpu (s : State) (c : Cpu) (h : c.sp = s.cpu.sp) :
    pop (s.setCpu c) = ((pop s).1, (pop s).2.setCpu (c.setSp (c.sp + 1))) := by
  rw [pop_eq, pop_eq, State.setCpu_cpu, h]
  rfl

theorem popWord_setCpu (s : State) (c : Cpu) (h : c.sp = s.cpu.sp) :
    popWord (s.setCpu c) = ((popWord s).1, (popWord s).2.setCpu (c.setSp (c.sp + 1 + 1))) := by
  have hsp : (c.setSp (c.sp + 1)).sp = (pop s).2.cpu.sp := by rw [pop_cpu, Cpu.setSp_sp, Cpu.setSp_sp, h]
  unfold popWord
  dsimp only
  rw [pop_setCpu s c h]
  dsimp only
  rw [pop_setCpu (pop s).2 _ hsp]
  rfl

theorem returnFromInterrupt_eq (s : State) :
    returnFromInterrupt s = (popWord (pop s).2).2.setCpu (returnFromInterrupt s).cpu := by
  unfold returnFromInterrupt
  dsimp only
  generalize pop s = m
  rw [popWord_setCpu m.2 (m.2.cpu.setP (Flags.ofByte m.1)) (Cpu.setP_sp _ _)]
  rw [State.setCpu_setCpu, State.setCpu_cpu, State.setCpu_cpu]

/-- Settles O17: the flags come from the byte pulled first, and setting them does not move the pulls of PC. -/
theorem rtiRestores : Obligations.RtiRestores := by
  intro s
  have hexec : exec .rti s = finishJump 6 (returnFromInterrupt s) := rfl
  rw [returnFromInterrupt_eq, finishJump_setCpu, returnFromInterrupt_cpu, ofByte_eq_statusFlags, word_eq_pair] at hexec
  exact ⟨_, hexec, rfl, (((pop_frame s).trans (popWord_frame _)).completion 6 _).quiet ((pop_storage s).trans (popWord_storage _))⟩

/-! ### The entry BRK, NMI and IRQ share (R285, R550) -/

/-- The state after the three pushes of an entry and the two reads of its vector. -/
def entryRead (ret : Word) (b : Bool) (vector : Nat) (s u : State) : State :=
  (memRead (BitVec.ofNat 16 (vector + 1)) (memRead (BitVec.ofNat 16 vector)
    (push (statusByte s.cpu.p b) (push (byte ret.toNat) (push (byte (ret.toNat / 256)) u)))).2).2

theorem enterInterrupt_eq (ret : Word) (b : Bool) (vector : Nat) (s u : State) (hcpu : u.cpu = s.cpu) :
    enterInterrupt ret b (BitVec.ofNat 16 vector) u =
      (entryRead ret b vector s u).setCpu (enterInterrupt ret b (BitVec.ofNat 16 vector) u).cpu := by
  have hp : (pushWord ret u).cpu.p = s.cpu.p := by rw [pushWord_cpu, Cpu.setSp_p, hcpu]
  have hv : BitVec.ofNat 16 vector + 1 = BitVec.ofNat 16 (vector + 1) := (BitVec.ofNat_add vector 1).symm
  unfold enterInterrupt memReadWord entryRead
  dsimp only
  rw [hp, hv, toByte_eq_statusByte, pushWord_eq]
  rfl

/-- Two reads of a vector are within the frame of stack accesses: they reach the cartridge. -/
theorem enterInterrupt_frame (ret : Word) (b : Bool) (vector : Word) (s : State)
    (hv : 0x6000 ≤ vector.toNat ∧ vector.toNat < 0xFFFF) : StackFrame s (enterInterrupt ret b vector s) := by
  have h1 : (vector + 1).toNat = vector.toNat + 1 := by
    rw [BitVec.toNat_add]
    exact Nat.mod_eq_of_lt (by show vector.toNat + 1 < 65536; omega)
  have hpushed := (pushWord_frame ret s).trans (push_frame ((pushWord ret s).cpu.p.toByte b) (pushWord ret s))
  have hread : ∀ (a : Word) (t : State), 0x6000 ≤ a.toNat → StackFrame t (memRead a t).2 := by
    intro a t ha
    rw [memRead_cart a t ha]
    exact ⟨rfl, rfl, rfl, rfl, rfl, rfl, rfl, rfl, rfl⟩
  unfold enterInterrupt memReadWord
  dsimp only
  exact ((hpushed.trans (hread vector _ hv.1)).trans (hread (vector + 1) _ (by omega))).trans (StackFrame.setCpu _ _)

/-- The state `s` at the interrupt check of a step: another frame-ready flag and another request. -/
def State.atCheck (s : State) (frameReady : Bool) (pending : PendingInterrupt) : State :=
  { s with frameReady := frameReady, irq := { s.irq with pending := pending } }

/-- An entry made in the state `s` at the interrupt check. -/
theorem enters_of_eq {r : Result} {s : State} {ret : Word} {b : Bool} {vector : Nat} (frameReady : Bool)
    (pending : PendingInterrupt) (hv : 0x6000 ≤ vector ∧ vector < 0xFFFF)
    (hr : r = finishJump 7 (enterInterrupt ret b (BitVec.ofNat 16 vector) (s.atCheck frameReady pending))) :
    Enters r s (s.atCheck frameReady pending) ret b vector := by
  have hvec : (BitVec.ofNat 16 vector).toNat = vector := Nat.mod_eq_of_lt (by omega)
  have hvec' : 0x6000 ≤ (BitVec.ofNat 16 vector).toNat ∧ (BitVec.ofNat 16 vector).toNat < 0xFFFF := by rwa [hvec]
  have hcheck : SameStorage s (s.atCheck frameReady pending) := SameStorage.of_arrays rfl rfl rfl rfl rfl rfl rfl
  have hcpu := enterInterrupt_cpu ret b (BitVec.ofNat 16 vector) (s.atCheck frameReady pending) hvec'
  have hread := enterInterrupt_eq ret b vector s (s.atCheck frameReady pending) rfl
  have hframe := enterInterrupt_frame ret b (BitVec.ofNat 16 vector) (s.atCheck frameReady pending) hvec'
  have hcells := enterInterrupt_storage ret b (BitVec.ofNat 16 vector) (s.atCheck frameReady pending)
  have hpushed := enterInterrupt_site ret b (BitVec.ofNat 16 vector) (s.atCheck frameReady pending)
  generalize enterInterrupt ret b (BitVec.ofNat 16 vector) (s.atCheck frameReady pending) = e at hr hcpu hread hframe hcells hpushed
  have hself := State.setCpu_self (tick 7 e)
  have hend := hframe.completion 7 e.cpu
  rw [tick_cpu] at hself
  rw [hself] at hend
  rw [hvec, word_eq_pair] at hcpu
  have htick : tick 7 e = (tick 7 (entryRead ret b vector s (s.atCheck frameReady pending))).setCpu e.cpu :=
    (congrArg (tick 7) hread).trans (tick_setCpu 7 _ _)
  refine ⟨tick 7 e, hr, (tick_cpu 7 e).trans hcpu, .after (.before hcheck hcells) hend.storage, fun hI => ?_,
    by rw [tick_cpu]; exact htick, hend.cycles, hend.port, hend.io, hend.kept⟩
  obtain ⟨hhigh, hlow, hflags⟩ := hpushed ⟨hI.ram, hI.nmiDelay, hI.ppu, hI.cart, hI.decay⟩
  exact ⟨(hend.storage _).trans (hhigh.trans (hi_eq_byte ret)), (hend.storage _).trans (hlow.trans (lo_eq_byte ret)),
    (hend.storage _).trans (hflags.trans (toByte_eq_statusByte _ b))⟩

/-- Settles O18: BRK makes the entry in the state it finds. -/
theorem brkEnters : Obligations.BrkEnters := fun s =>
  enters_of_eq s.frameReady s.irq.pending (by decide) rfl

end Sys2Proof.Machine
end

section
/-! Proofs about the step (40_addressing_modes.md R170 to R172, 60_exceptions.md) and about `reset()` (70_reset_and_hazards.md R591). -/

namespace Sys2Proof.Machine

open Claims hiding pixelIndex

/-! ### The fetch (R172, R187) -/

theorem length_fetchBytes (n : Nat) : ∀ (a : Word) (s : State), (fetchBytes n a s).1.length = n := by
  induction n with
  | zero => exact fun _ _ => rfl
  | succ n ih => exact fun a s => congrArg (· + 1) (ih (a + 1) (memRead a s).2)

/-- The bytes of a sequence that decodes with nothing left over are as many as the opcode byte asks for. -/
theorem length_of_decode_cons_nil {op : Byte} {tail : List Byte} {i : Instr} (h : decode (op :: tail) = .ok (i, [])) :
    tail.length = operandCount op ∧ decodeOp op (tail.getD 0 0) (tail.getD 1 0) = i := by
  by_cases hlen : tail.length < operandCount op
  · rw [decode_cons_of_lt hlen] at h
    cases h
  · rw [decode_cons_of_le (Nat.not_lt.mp hlen)] at h
    injection h with h
    injection h with hi hrest
    exact ⟨Nat.le_antisymm (List.drop_eq_nil_iff.mp hrest) (Nat.not_lt.mp hlen), hi⟩

/-- If the `n` bytes from PC on decode to an instruction with none left over, the fetch reads those bytes and gives it. -/
theorem fetchInstr_of_decode {n : Nat} {s : State} {i : Instr} (h : decode (fetchBytes n s.cpu.pc s).1 = .ok (i, [])) :
    fetchInstr s = (i, (fetchBytes n s.cpu.pc s).2) := by
  cases n with
  | zero => cases h
  | succ n =>
    obtain ⟨hlen, hi⟩ := length_of_decode_cons_nil h
    rw [length_fetchBytes] at hlen
    have hpc : (memRead s.cpu.pc s).2.cpu.pc = s.cpu.pc := by rw [memRead_cpu]
    have htwo := operandCount_le_two (memRead s.cpu.pc s).1
    have hpc2 : s.cpu.pc + 1 + 1 = s.cpu.pc + 2 := BitVec.add_assoc _ _ _
    unfold fetchInstr
    dsimp only
    rw [← hlen] at htwo ⊢
    match n, htwo, hi with
    | 0, _, hi => exact Prod.ext hi rfl
    | 1, _, hi =>
      rw [hpc]
      exact Prod.ext hi rfl
    | 2, _, hi =>
      rw [hpc, memRead_cpu, hpc, ← hpc2]
      exact Prod.ext hi rfl

/-! ### The start of a step (R170, R171) -/

theorem beginStep_of_no_stall {s : State} (h : s.irq.stall = 0) : beginStep s = s.setFrameReady false := by
  unfold beginStep
  dsimp only
  rw [State.setFrameReady_irq, h]
  rfl

theorem beginStep_of_stall {s : State} (h : 0 < s.irq.stall) :
    beginStep s = tick s.irq.stall { s with frameReady := false, irq := { s.irq with stall := 0 } } := by
  unfold beginStep
  dsimp only
  exact if_pos h

theorem step_of_ready {s : State} (h : Ready s) : step s = dispatchStep (s.setFrameReady false) := by
  obtain ⟨hstarted, hjammed, hstall⟩ := h
  rw [step_of_running hstarted hjammed, beginStep_of_no_stall hstall]

/-! ### The interrupt check (R548, R549) -/

theorem dispatchStep_of_none {s : State} (h : s.irq.pending = .none) : dispatchStep s = executeInstruction s := by
  unfold dispatchStep
  rw [h]

theorem dispatchStep_of_nmi {s : State} (h : s.irq.pending = .nmi) :
    dispatchStep s = serviceStep Config.nmiVector (clearPending s) := by
  unfold dispatchStep
  rw [h]

theorem dispatchStep_of_irq {s : State} (h : s.irq.pending = .irq) :
    dispatchStep s =
      if s.cpu.p.i then executeInstruction (clearPending s) else serviceStep Config.irqVector (clearPending s) := by
  unfold dispatchStep
  rw [h]

/-- Running the instruction at PC, when its bytes decode to `i`. -/
theorem executeInstruction_of_decode {n : Nat} {s : State} {i : Instr} (h : decode (fetchBytes n s.cpu.pc s).1 = .ok (i, [])) :
    executeInstruction s = exec i (fetchBytes n s.cpu.pc s).2 := by
  unfold executeInstruction
  rw [fetchInstr_of_decode h]

/-- Settles O32: the fetch of a step reads the bytes that `fetchBytes` reads, as many as the opcode asks for. -/
theorem stepRunsDecodedInstruction : Obligations.StepRunsDecodedInstruction := by
  intro s n i hready hpending hdecode
  rw [step_of_ready hready, dispatchStep_of_none (s := s.setFrameReady false) hpending]
  exact executeInstruction_of_decode (s := s.setFrameReady false) hdecode

/-- The service of a request in a step with no stall is the entry in the state in which the request is taken. -/
theorem enters_of_service {s : State} {vector : Nat} (hv : 0x6000 ≤ vector ∧ vector < 0xFFFF) {r : Result}
    (hr : r = serviceStep (BitVec.ofNat 16 vector) (clearPending (s.setFrameReady false))) :
    Enters r s (served s) s.cpu.pc false vector :=
  enters_of_eq false .none hv hr

/-- Settles O34: I plays no part in the check of an NMI. -/
theorem nmiServiced : Obligations.NmiServiced := by
  intro s hready hpending
  refine enters_of_service (by decide) ?_
  rw [step_of_ready hready, dispatchStep_of_nmi (s := s.setFrameReady false) hpending]
  rfl

/-! ### A request that meets I = 1 (R549) -/

/-- The second state is the first, or the first without its IRQ. -/
def SameButIrq (s t : State) : Prop := t = s ∨ (s.irq.pending = .irq ∧ t = clearPending s)

theorem advanceNmiDelay_clearPending (s : State) :
    (clearPending s).irq.advanceNmiDelay = s.irq.advanceNmiDelay ∨
      s.irq.advanceNmiDelay.pending = s.irq.pending ∧
        (clearPending s).irq.advanceNmiDelay = { s.irq.advanceNmiDelay with pending := .none } := by
  unfold clearPending
  rw [State.setIrq_irq]
  obtain ⟨pending, delay, stall⟩ := s.irq
  cases delay with
  | none => exact .inr ⟨rfl, rfl⟩
  | canceled => exact .inr ⟨rfl, rfl⟩
  | delayed n =>
    by_cases hn : n ≤ 1
    · exact .inl (by simp [Coordinator.advanceNmiDelay, Coordinator.triggerNmi, hn])
    · exact .inr (by simp [Coordinator.advanceNmiDelay, hn])

theorem SameButIrq.tickCounters {s t : State} (h : SameButIrq s t) : SameButIrq (tickCounters s) (tickCounters t) := by
  rcases h with rfl | ⟨hp, rfl⟩
  · exact .inl rfl
  · unfold Machine.tickCounters
    rcases advanceNmiDelay_clearPending s with heq | ⟨hpending, heq⟩ <;> rw [heq]
    · exact .inl rfl
    · exact .inr ⟨hpending.trans hp, rfl⟩

theorem nmiPart_setPending (sl c : Nat) (e : Bool) (q : Coordinator) (p : PendingInterrupt) :
    nmiPart sl c e { q with pending := p } = { nmiPart sl c e q with pending := p } := by
  unfold nmiPart Coordinator.scheduleNmi Coordinator.uncancel
  dsimp only
  split
  · split
    · split <;> rfl
    · rfl
  · split
    · split <;> rfl
    · rfl

theorem nmiPart_pending (sl c : Nat) (e : Bool) (q : Coordinator) : (nmiPart sl c e q).pending = q.pending := by
  unfold nmiPart
  split
  · split
    · exact Coordinator.scheduleNmi_pending q
    · rfl
  · split
    · exact Coordinator.uncancel_pending q
    · rfl

theorem ppuDot_clearPending (s : State) : ppuDot (clearPending s) = clearPending (ppuDot s) := by
  unfold ppuDot clearPending
  dsimp only [State.setIrq]
  rw [nmiPart_setPending]
  split <;> rfl

theorem SameButIrq.ppuDot {s t : State} (h : SameButIrq s t) : SameButIrq (ppuDot s) (ppuDot t) := by
  rcases h with rfl | ⟨hp, rfl⟩
  · exact .inl rfl
  · exact .inr ⟨by rw [ppuDot_irq, nmiPart_pending, hp], ppuDot_clearPending s⟩

/-- An asserted line puts the IRQ back that was dropped. -/
theorem SameButIrq.tickIrqLine {s t : State} (h : SameButIrq s t) : SameButIrq (tickIrqLine s) (tickIrqLine t) := by
  rcases h with rfl | ⟨hp, rfl⟩
  · exact .inl rfl
  · unfold Machine.tickIrqLine
    rw [show (clearPending s).cart = s.cart from rfl]
    split
    · refine .inl ?_
      have hs : s.irq.triggerIrq = s.irq := by
        unfold Coordinator.triggerIrq
        rw [hp]
      rw [hs]
      exact congrArg (fun p => s.setIrq { s.irq with pending := p }) hp.symm
    · exact .inr ⟨hp, rfl⟩

theorem SameButIrq.tick (n : Nat) : ∀ {s t : State}, SameButIrq s t → SameButIrq (tick n s) (tick n t) := by
  induction n with
  | zero => exact fun h => h
  | succ n ih => exact fun h => ih h.tickCounters.ppuDot.ppuDot.ppuDot.tickIrqLine

theorem SameButIrq.beginStep {s t : State} (h : SameButIrq s t) : SameButIrq (beginStep s) (beginStep t) := by
  rcases h with rfl | ⟨hp, rfl⟩
  · exact .inl rfl
  · rcases Nat.eq_zero_or_pos s.irq.stall with hstall | hstall
    · rw [beginStep_of_no_stall hstall, beginStep_of_no_stall (s := clearPending s) hstall]
      exact .inr ⟨hp, rfl⟩
    · rw [beginStep_of_stall hstall, beginStep_of_stall (s := clearPending s) hstall]
      exact SameButIrq.tick _ (.inr ⟨hp, rfl⟩)

/-- With I = 1 an IRQ in the slot makes no difference to the interrupt check. -/
theorem SameButIrq.dispatchStep {s t : State} (h : SameButIrq s t) (hi : s.cpu.p.i = true) : dispatchStep s = dispatchStep t := by
  rcases h with rfl | ⟨hp, rfl⟩
  · rfl
  · rw [dispatchStep_of_irq hp, hi, dispatchStep_of_none (s := clearPending s) rfl]
    rfl

theorem beginStep_cpu (s : State) : (beginStep s).cpu = s.cpu := by
  unfold beginStep
  dsimp only
  split
  · exact tick_cpu _ _
  · rfl

/-- Settles O33: with I = 1 the request makes no difference through the stall's cycles, and the check drops it. -/
theorem irqMaskedOrServiced : Obligations.IrqMaskedOrServiced := by
  refine ⟨fun s hready hpending hi => ?_, fun s n i hready hpending hi hdecode => ?_, fun s hstarted hjammed hpending hi => ?_⟩
  · refine enters_of_service (by decide) ?_
    rw [step_of_ready hready, dispatchStep_of_irq (s := s.setFrameReady false) hpending, State.setFrameReady_cpu, hi]
    rfl
  · rw [step_of_ready hready, dispatchStep_of_irq (s := s.setFrameReady false) hpending, State.setFrameReady_cpu, hi]
    exact executeInstruction_of_decode (s := clearPending (s.setFrameReady false)) hdecode
  · have hsame : SameButIrq s (clearPending s) := .inr ⟨hpending, rfl⟩
    rw [step_of_running hstarted hjammed, hsame.beginStep.dispatchStep (by rw [beginStep_cpu, hi])]
    exact (step_of_running (s := clearPending s) hstarted hjammed).symm

/-! ### The stall (R171, D3) -/

theorem TickFrame.kept {s t : State} (h : TickFrame s t) : Kept s t :=
  ⟨h.fixed, h.jammed⟩

/-- Settles O35. -/
theorem stallConsumedFirst : Obligations.StallConsumedFirst := by
  intro s hstarted hjammed hstall
  have hframe := tick_frame s.irq.stall { s with frameReady := false, irq := { s.irq with stall := 0 } }
  refine ⟨_, ?_, rfl, hframe.cpu, tick_cycles _ _, hframe.stall, hframe.storage, hframe.port, hframe.io, hframe.latch, hframe.kept⟩
  rw [step_of_running hstarted hjammed, beginStep_of_stall hstall]

/-! ### `reset()` (R591) -/

/-- A word read in the mapper's window: two bytes of the cartridge, the second left on the bus. -/
theorem memReadWord_cart (a : Word) (s : State) (h : 0x6000 ≤ a.toNat) (h' : a.toNat < 0xFFFF) :
    memReadWord a s = (pair (s.cart.cpuRead (a.toNat + 1)) (s.cart.cpuRead a.toNat),
      { s with bus := { s.bus with latch := s.cart.cpuRead (a.toNat + 1), latchAge := 0 } }) := by
  have hsucc : (a + 1).toNat = a.toNat + 1 := by bv_omega
  unfold memReadWord
  rw [memRead_cart a s h]
  dsimp only
  rw [memRead_cart (a + 1) _ (by omega), hsucc]
  exact Prod.ext (word_eq_pair _ _) rfl

/-- What `reset()` leaves before its cycles pass. -/
theorem hostReset_zero (r : Bool) (s : State) :
    hostReset r 0 s =
      { s with
        cpu := { a := 0, x := 0, y := 0, sp := 0xFD, pc := pair (s.cart.cpuRead 0xFFFD) (s.cart.cpuRead 0xFFFC),
                 p := { c := false, z := false, i := r, d := false, v := false, n := false } }
        irq := { pending := .none, nmiDelay := .none, stall := 0 }, jammed := false, started := true
        bus := { s.bus with latch := s.cart.cpuRead 0xFFFD, latchAge := 0 } } := by
  unfold hostReset
  dsimp only
  rw [memReadWord_cart _ _ (by decide) (by decide)]
  rfl

theorem hostReset_eq_tick (r : Bool) (n : Nat) (s : State) : hostReset r n s = tick n (hostReset r 0 s) := rfl

/-- Settles O41. -/
theorem hostResetLeaves : Obligations.HostResetLeaves := by
  intro r n s
  have hframe := tick_frame n (hostReset r 0 s)
  rw [hostReset_eq_tick r n s]
  have hcycles := tick_cycles n (hostReset r 0 s)
  rw [hostReset_zero] at hframe hcycles ⊢
  exact ⟨hframe.cpu, rfl, rfl, rfl, rfl, rfl, hframe.jammed, hframe.started, hcycles, hframe.storage, hframe.port, hframe.io⟩

end Sys2Proof.Machine
end

section
/-! Proofs about construction (70_reset_and_hazards.md R590) and about the mapper variants (49_mappers.md). -/

namespace Sys2Proof.Machine

open Claims hiding pixelIndex

/-! ### The invariant at power-on (R83) -/

theorem Frame.ok_blank : Frame.ok Frame.blank = true := by
  unfold Frame.ok Frame.blank
  rw [List.length_replicate, List.all_replicate]
  rfl

theorem spriteCacheInv_powerOn : SpriteCacheInv Ppu.powerOn where
  length := rfl
  count := Nat.zero_le 8
  index := fun sp hsp => by rw [List.eq_of_mem_replicate hsp]; exact Nat.zero_lt_succ 63

/-- Settles O39. -/
theorem resetHasInv : Obligations.ResetHasInv where
  ram := rfl
  nmiDelay := trivial
  ppu := { scanline := Nat.zero_le _, cycle := by decide, oam := rfl, palette := rfl, vram := rfl,
           sprites := { spriteCacheInv_powerOn with }, back := Frame.ok_blank, front := Frame.ok_blank }
  cart := { prgLen := by decide, chrLen := by decide, prg := rfl, chr := rfl, sram := rfl, mapper := trivial }
  decay := Nat.zero_lt_succ _

theorem powerOn_inv (r : Bool) (l : Launch) {c : Cart} (hram : Memory.ok 2048 l.ram = true) (hvram : Memory.ok 2048 l.vram = true)
    (hoam : Memory.ok 256 l.oam = true) (hpalette : Memory.ok 32 l.palette = true) (hc : CartInv c) : (powerOn r l c).Inv where
  ram := hram
  nmiDelay := trivial
  ppu := { scanline := Nat.zero_le _, cycle := Nat.zero_le _, oam := hoam, palette := hpalette, vram := hvram,
           sprites := { spriteCacheInv_powerOn with }, back := Frame.ok_blank, front := Frame.ok_blank }
  cart := hc
  decay := l.decayPos

/-! ### Construction (R480, R482, R590) -/

/-- The variants and their power-on registers (R72 to R77, R482). -/
theorem exists_ofNumber_eq_some (n : Nat) : (∃ m, Mapper.ofNumber n = some m) ↔ n ∈ [0, 1, 2, 3, 4, 7] := by
  unfold Mapper.ofNumber
  split <;> simp_all

theorem mapperInv_of_ofNumber {n : Nat} {m : Mapper} (h : Mapper.ofNumber n = some m) : MapperInv m := by
  unfold Mapper.ofNumber at h
  split at h <;> cases h
  · trivial
  · exact ⟨Nat.zero_le 4, Nat.zero_lt_one⟩
  · exact Nat.zero_lt_succ 255
  · exact Nat.zero_lt_succ 255
  · exact rfl
  · exact Nat.zero_lt_succ 7

theorem exists_ofHeader_eq_some (m : HeaderMirroring) : (∃ m', Mirroring.ofHeader m = some m') ↔ m ≠ .fourScreen := by
  cases m <;> simp [Mirroring.ofHeader]

theorem construct_eq_ok_iff (r : Bool) (l : Launch) (c : Cartridge) (s : State) :
    construct r l c = .ok s ↔ ∃ mapper m, Mapper.ofNumber c.mapperNumber = some mapper ∧ Mirroring.ofHeader c.mirroring = some m ∧
      (c.prgLen ≠ 0 ∧ c.prgLen % 16384 = 0 ∧ c.chrLen % 8192 = 0) ∧ powerOn r l (Cart.insert c mapper m) = s := by
  unfold construct
  cases Mapper.ofNumber c.mapperNumber with
  | none => simp
  | some mapper =>
    cases Mirroring.ofHeader c.mirroring with
    | none => simp
    | some m =>
      by_cases hprg : c.prgLen = 0 ∨ c.prgLen % Config.prgPage ≠ 0
      · dsimp only
        rw [if_pos hprg]
        refine ⟨fun h => (nomatch h), ?_⟩
        rintro ⟨_, _, _, _, ⟨h0, hp, _⟩, _⟩
        exact absurd hprg (not_or.mpr ⟨h0, Decidable.not_not.mpr hp⟩)
      · by_cases hchr : c.chrLen % Config.chrPage ≠ 0
        · dsimp only
          rw [if_neg hprg, if_pos hchr]
          refine ⟨fun h => (nomatch h), ?_⟩
          rintro ⟨_, _, _, _, ⟨_, _, hc⟩, _⟩
          exact absurd hc hchr
        · dsimp only
          rw [if_neg hprg, if_neg hchr]
          obtain ⟨hempty, hpages⟩ := not_or.mp hprg
          have hlens : c.prgLen ≠ 0 ∧ c.prgLen % 16384 = 0 ∧ c.chrLen % 8192 = 0 := ⟨hempty, Decidable.not_not.mp hpages, Decidable.not_not.mp hchr⟩
          simp [hlens]

theorem cartInv_insert {c : Cartridge} {mapper : Mapper} (m : Mirroring) (hmapper : MapperInv mapper)
    (hlens : c.prgLen ≠ 0 ∧ c.prgLen % 16384 = 0 ∧ c.chrLen % 8192 = 0) (hprg : Memory.ok c.prgLen c.prg = true)
    (hchr : Memory.ok (if c.chrLen = 0 then 8192 else c.chrLen) c.chr = true) (hsram : Memory.ok 8192 c.sram = true) :
    CartInv (Cart.insert c mapper m) where
  prgLen := ⟨Nat.pos_of_ne_zero hlens.1, hlens.2.1⟩
  chrLen := by
    show 0 < (if c.chrLen = 0 then 8192 else c.chrLen) ∧ (if c.chrLen = 0 then 8192 else c.chrLen) % 8192 = 0
    split <;> omega
  prg := hprg
  chr := hchr
  sram := hsram
  mapper := hmapper

/-- Settles O40. -/
theorem constructionRefusesOrInv : Obligations.ConstructionRefusesOrInv := by
  refine ⟨fun r l c => ?_, fun r l c s h hram hvram hoam hpalette hprg hchr hsram => ?_⟩
  · rw [← exists_ofNumber_eq_some, ← exists_ofHeader_eq_some]
    simp only [construct_eq_ok_iff]
    constructor
    · rintro ⟨s, mapper, m, hmapper, hm, hlens, -⟩
      exact ⟨⟨mapper, hmapper⟩, ⟨m, hm⟩, hlens⟩
    · rintro ⟨⟨mapper, hmapper⟩, ⟨m, hm⟩, hlens⟩
      exact ⟨_, mapper, m, hmapper, hm, hlens, rfl⟩
  · obtain ⟨mapper, m, hmapper, -, hlens, rfl⟩ := (construct_eq_ok_iff r l c s).mp h
    exact ⟨powerOn_inv r l hram hvram hoam hpalette (cartInv_insert m (mapperInv_of_ofNumber hmapper) hlens hprg hchr hsram), rfl⟩

/-! ### The accesses that reach the mapper (R91, R92, R100) -/

theorem memWrite_cart (a : Word) (d : Byte) (s : State) (h : 0x4020 ≤ a.toNat) :
    memWrite a d s = (s.drive d).setCart (s.cart.cpuWrite a.toNat d) := by
  unfold memWrite
  dsimp only
  rw [if_neg (by omega), if_neg (by omega), if_neg (by omega), if_neg (by omega), if_neg (by omega)]
  rfl

theorem mapperReached : MapperReached := fun s a => ⟨memRead_cart a s, fun h d => memWrite_cart a d s h⟩

/-! ### PRG windows (R490 to R493, R510, R522) -/

theorem bank_eq_bankOffset (n size len : Nat) : bank n size len = bankOffset n size len := rfl

/-- The last `k` banks of a buffer of whole banks. -/
theorem bankFromEnd_eq {size len : Nat} (k : Nat) (h : len % size = 0) : bankFromEnd k size len = len - k * size := by
  unfold bankFromEnd bankCount
  rw [Nat.sub_mul, Nat.div_mul_cancel (Nat.dvd_of_mod_eq_zero h)]

/-- A mask of all bits but bit 0. -/
theorem and_even_mask {x k : Nat} (hx : x < 2 ^ (k + 1)) : x &&& 2 * (2 ^ k - 1) = x / 2 * 2 := by
  have hhalf : (x &&& 2 * (2 ^ k - 1)) / 2 = x / 2 := by
    rw [Nat.and_div_two, Nat.mul_div_cancel_left _ Nat.zero_lt_two, Nat.and_two_pow_sub_one_eq_mod, Nat.mod_eq_of_lt (by omega)]
  have heven : (x &&& 2 * (2 ^ k - 1)) % 2 = 0 := by
    rw [Nat.and_mod_two_pow (n := 1), Nat.pow_one, Nat.mul_mod_right, Nat.and_zero]
  omega

theorem cpuRead_prg (c : Cart) {a off : Nat} (ha : 0x8000 ≤ a) (heq : c.prgOffset a = off) (hlt : c.prgOffset a < c.prgLen) :
    off < c.prgLen ∧ c.cpuRead a = c.prg.read off := by
  subst heq
  refine ⟨hlt, ?_⟩
  unfold Cart.cpuRead Cart.prgByte
  rw [if_neg (by omega), if_pos hlt]

theorem mmc1_prgOffset_eq (m : Mmc1) {len a : Nat} (hlen : len % 0x4000 = 0) : m.prgOffset len a = mmc1Prg m len a := by
  have heven : m.prgBank.toNat &&& 0x0E = m.prgBank.toNat / 2 * 2 := and_even_mask (k := 3) m.prgBank.isLt
  have hlast := bankFromEnd_eq 1 hlen
  have hfirst : bank 0 0x4000 len = 0 := by unfold bank; rw [Nat.zero_mod, Nat.zero_mul]
  unfold Mmc1.prgOffset mmc1Prg Mmc1.prgMode
  dsimp only
  rw [heven, hlast, hfirst]
  have hmode : m.control.toNat / 4 % 4 < 4 := Nat.mod_lt _ (by decide)
  generalize m.control.toNat / 4 % 4 = mode at hmode
  match mode with
  | 0 => by_cases h : a < 0xC000 <;> simp [h, bank_eq_bankOffset]
  | 1 => by_cases h : a < 0xC000 <;> simp [h, bank_eq_bankOffset]
  | 2 => by_cases h : a < 0xC000 <;> simp [h, bank_eq_bankOffset]
  | 3 => by_cases h : a < 0xC000 <;> simp [h, bank_eq_bankOffset]

theorem bank_reg (m : Mmc3) (k size len : Nat) : bank (m.reg k) size len = bankOffset (reg m k) size len := rfl

/-- The four windows of MMC3. -/
theorem mmc3_prgOffset_eq (m : Mmc3) {len a : Nat} (hlen : len % 0x2000 = 0) (ha : 0x8000 ≤ a) (ha' : a < 0x10000) :
    m.prgOffset len a = mmc3Prg m len a := by
  have hlast := bankFromEnd_eq 1 hlen
  have hsecond := bankFromEnd_eq 2 hlen
  unfold Mmc3.prgOffset mmc3Prg
  rw [hlast, hsecond]
  congr 1
  rcases (by omega : a < 0xA000 ∨ (0xA000 ≤ a ∧ a < 0xC000) ∨ (0xC000 ≤ a ∧ a < 0xE000) ∨ 0xE000 ≤ a) with h | h | h | h
  · have hwindow : (a - 0x8000) / 0x2000 = 0 := by omega
    have hE : ¬ 0xE000 ≤ a := by omega
    have hA : ¬ 0xA000 ≤ a := by omega
    have hC : ¬ 0xC000 ≤ a := by omega
    cases hmode : m.prgMode <;> simp [hwindow, hE, hA, hC, bank_reg]
  · have hwindow : (a - 0x8000) / 0x2000 = 1 := by omega
    have hE : ¬ 0xE000 ≤ a := by omega
    simp [hwindow, hE, h, bank_reg]
  · have hwindow : (a - 0x8000) / 0x2000 = 2 := by omega
    have hE : ¬ 0xE000 ≤ a := by omega
    have hA : ¬ a < 0xC000 := by omega
    cases hmode : m.prgMode <;> simp [hwindow, hE, hA, h.1, bank_reg]
  · have hwindow : (a - 0x8000) / 0x2000 = 3 := by omega
    simp [hwindow, h]

theorem prgWindows : PrgWindows := by
  intro c a hc ha ha'
  have hpage := hc.prgLen.2
  have hoffset := Cart.prgOffset_lt c a hc ha ha'
  have hlast : bankFromEnd 1 0x4000 c.prgLen = c.prgLen - 0x4000 := bankFromEnd_eq 1 hpage
  refine ⟨fun hm => ?_, fun b hm => ?_, fun b hm => ?_, fun b hm hlen => ?_, fun b hm hlen => ?_, fun m hm => ?_, fun m hm => ?_⟩
  · exact cpuRead_prg c ha (by simp only [Cart.prgOffset, hm]) (hoffset (by simp [hm]))
  · exact cpuRead_prg c ha (by simp only [Cart.prgOffset, hm]) (hoffset (by simp [hm]))
  · refine cpuRead_prg c ha ?_ (hoffset (by simp [hm]))
    simp only [Cart.prgOffset, hm, hlast]
    rfl
  · exact cpuRead_prg c ha (by simp only [Cart.prgOffset, hm]; rfl) (hoffset fun _ _ => hlen)
  · have hoff : c.prgOffset a = b * 0x8000 + (a - 0x8000) := by
      simp only [Cart.prgOffset, hm, bank, bankCount]
      rw [Nat.div_eq_of_lt hlen, Nat.mod_zero]
    unfold Cart.cpuRead Cart.prgByte
    rw [if_neg (by omega), hoff]
  · exact cpuRead_prg c ha (by simp only [Cart.prgOffset, hm]; exact mmc1_prgOffset_eq m hpage) (hoffset (by simp [hm]))
  · refine cpuRead_prg c ha ?_ (hoffset (by simp [hm]))
    simp only [Cart.prgOffset, hm]
    exact mmc3_prgOffset_eq m (by change c.prgLen % 16384 = 0 at hpage; omega) ha ha'

/-! ### CHR windows (R490 to R493, R511, R523) -/

theorem mmc1_chrOffset_eq (m : Mmc1) {len a : Nat} (ha : a < 0x2000) :
    m.chrOffset len a =
      (if m.control.toNat / 16 = 0 then bankOffset (m.chrBank0.toNat / 2 * 2 + a / 0x1000) 0x1000 len
       else bankOffset (if a < 0x1000 then m.chrBank0.toNat else m.chrBank1.toNat) 0x1000 len) + a % 0x1000 := by
  have heven : m.chrBank0.toNat &&& 0x1E = m.chrBank0.toNat / 2 * 2 := and_even_mask (k := 4) m.chrBank0.isLt
  have hmode : m.chrMode = decide (¬ m.control.toNat / 16 = 0) := by
    unfold Mmc1.chrMode
    rw [BitVec.getLsbD, Nat.testBit_eq_decide_div_mod_eq]
    have := m.control.isLt
    exact decide_eq_decide.mpr (by omega)
  unfold Mmc1.chrOffset
  rw [hmode, heven]
  by_cases hcontrol : m.control.toNat / 16 = 0 <;> by_cases hlow : a < 0x1000
  · simp [hcontrol, hlow, Nat.div_eq_of_lt hlow, bank_eq_bankOffset]
  · simp [hcontrol, hlow, show a / 0x1000 = 1 by omega, bank_eq_bankOffset]
  · simp [hcontrol, hlow, bank_eq_bankOffset]
  · simp [hcontrol, hlow, bank_eq_bankOffset]

theorem mmc3_reg_even (m : Mmc3) (k : Nat) : m.reg k &&& 0xFE = m.reg k / 2 * 2 :=
  and_even_mask (k := 7) (m.bankReg.getD k 0).isLt

/-- The eight columns of the CHR table of MMC3. -/
theorem mmc3_chrBank_eq (m : Mmc3) {col : Nat} (h : col < 8) :
    m.chrBank col =
      if col < 2 then reg m 0 / 2 * 2 + col else if col < 4 then reg m 1 / 2 * 2 + (col - 2) else reg m (col - 2) := by
  unfold Mmc3.chrBank
  rw [mmc3_reg_even, mmc3_reg_even]
  match col with
  | 0 | 1 | 2 | 3 | 4 | 5 | 6 | 7 => rfl

theorem mmc3_chrOffset_eq (m : Mmc3) (len a : Nat) :
    m.chrOffset len a = bankOffset (mmc3ChrBank m a) 0x400 len + a % 0x400 := by
  unfold Mmc3.chrOffset mmc3ChrBank
  dsimp only
  rw [mmc3_chrBank_eq m (by split <;> omega), bank_eq_bankOffset]
  have hcol : (if m.chrMode = true then (a / 0x400 % 8 + 4) % 8 else a / 0x400 % 8) =
      (a / 0x400 + if m.chrMode = true then 4 else 0) % 8 := by
    split <;> omega
  rw [hcol]

theorem chrWindows : ChrWindows := by
  intro c a hc ha
  refine ⟨rfl, Cart.chrOffset_lt c a hc ha, fun d => rfl, fun hm => ?_, fun b hm => ?_, fun b hm => ?_, fun b hm => ?_,
    fun m hm => ?_, fun m hm => ?_⟩
  · simp only [Cart.chrOffset, hm]
  · simp only [Cart.chrOffset, hm]
  · simp only [Cart.chrOffset, hm]
  · simp only [Cart.chrOffset, hm]
    rfl
  · simp only [Cart.chrOffset, hm]
    exact mmc1_chrOffset_eq m ha
  · simp only [Cart.chrOffset, hm]
    exact mmc3_chrOffset_eq m c.chrLen a

/-! ### Register writes (R484, R490 to R493) -/

theorem cpuWrite_register (c : Cart) {a : Nat} (d : Byte) (h : 0x8000 ≤ a) : c.cpuWrite a d = c.registerWrite a d := by
  unfold Cart.cpuWrite
  rw [if_neg (by omega), if_neg (by omega)]

theorem boardRegisters : BoardRegisters := by
  intro c a d
  refine ⟨fun h => if_pos h, fun h h' => ⟨?_, if_pos h'⟩, fun h => ?_⟩
  · unfold Cart.cpuWrite
    rw [if_neg (by omega), if_pos h']
  · rw [cpuWrite_register c d h]
    refine ⟨fun hm => ?_, fun b hm => ?_, fun b hm => ?_, fun b hm => ?_⟩
    · simp only [Cart.registerWrite, hm]
    · simp only [Cart.registerWrite, hm]
    · simp only [Cart.registerWrite, hm]
    · have hlow : (d &&& 0x07#8).toNat = d.toNat % 8 := Nat.and_two_pow_sub_one_eq_mod d.toNat 3
      simp only [Cart.registerWrite, hm, hlow, bit_eq, decide_eq_true_eq, Nat.reducePow]

/-- Settles O58: each variant's window is its rule's offset, and the last 8 KB of the space lie in the last bank. -/
theorem vectorWindowFixed : Obligations.VectorWindowFixed := by
  refine ⟨mapperReached, prgWindows, chrWindows, boardRegisters, fun c a hc ha ha' hmapper => ?_⟩
  obtain ⟨hnrom, -, huxrom, -, -, hmmc1, hmmc3⟩ := prgWindows c a hc (by omega) ha'
  have hlen : 0x4000 ≤ c.prgLen := page_le 0x4000 c.prgLen hc.prgLen
  have hpage : c.prgLen % 0x4000 = 0 := hc.prgLen.2
  have hshown : ∀ off, c.cpuRead a = c.prg.read off → off = c.prgLen + a - 0x10000 →
      c.cpuRead a = c.prg.read (c.prgLen + a - 0x10000) := fun off h heq => heq ▸ h
  rcases hmapper with ⟨b, hm⟩ | ⟨m, hm, hmode⟩ | ⟨m, hm⟩ | ⟨hm, hsmall⟩
  · refine hshown _ (huxrom b hm).2 ?_
    rw [if_neg (by omega)]
    omega
  · refine hshown _ (hmmc1 m hm).2 ?_
    unfold mmc1Prg
    dsimp only
    rw [hmode, if_neg (by decide), if_neg (by decide), if_neg (by omega)]
    omega
  · refine hshown _ (hmmc3 m hm).2 ?_
    unfold mmc3Prg
    rw [if_pos ha]
    omega
  · refine hshown _ (hnrom hm).2 ?_
    rcases (by omega : c.prgLen = 0x4000 ∨ c.prgLen = 0x8000) with h | h <;> rw [h] <;> omega

/-! ### The registers of MMC1 (R501, R502) -/

/-- MMC1 with `n` bits collected, whose number is `v`. -/
def Mmc1.collected (m : Mmc1) (n v : Nat) : Mmc1 := { m with shiftValue := BitVec.ofNat 5 v, shiftCount := n }

theorem Mmc1.collected_zero {m : Mmc1} (hcount : m.shiftCount = 0) (hvalue : m.shiftValue.toNat < 2 ^ m.shiftCount) :
    m.collected 0 0 = m := by
  obtain ⟨value, count, control, chr0, chr1, prg⟩ := m
  subst hcount
  have hzero : value = 0#5 := BitVec.eq_of_toNat_eq (Nat.lt_one_iff.mp hvalue)
  subst hzero
  rfl

/-- The next bit goes above the `n` bits collected. -/
theorem collect_bit {n v : Nat} (hn : n ≤ 4) (hv : v < 2 ^ n) (d : Byte) :
    BitVec.ofNat 5 v ||| ((d &&& 1#8).setWidth 5 <<< n) = BitVec.ofNat 5 (v + 2 ^ n * (d.toNat % 2)) := by
  have hpow : (2 : Nat) ^ n ≤ 16 := Nat.pow_le_pow_right (by decide) hn
  have hbit : (d &&& 1#8).toNat = d.toNat % 2 := Nat.and_one_is_mod _
  have hlow : d.toNat % 2 < 2 := Nat.mod_lt _ Nat.zero_lt_two
  refine BitVec.eq_of_toNat_eq ?_
  rw [BitVec.toNat_or, BitVec.toNat_shiftLeft, BitVec.toNat_setWidth, hbit, BitVec.toNat_ofNat, BitVec.toNat_ofNat, Nat.shiftLeft_eq]
  generalize d.toNat % 2 = b at hlow
  have hmul : 2 ^ n * b ≤ 2 ^ n * 1 := Nat.mul_le_mul_left _ (by omega)
  rw [Nat.mod_eq_of_lt (by omega : v < 2 ^ 5), Nat.mod_eq_of_lt (by omega : b < 2 ^ 5), Nat.mul_comm b,
    Nat.mod_eq_of_lt (by omega : 2 ^ n * b < 2 ^ 5), Nat.or_comm, mul_two_pow_or hv,
    Nat.mod_eq_of_lt (by omega : v + 2 ^ n * b < 2 ^ 5), Nat.add_comm]

theorem bit_seven_of_lt {d : Byte} (hd : d.toNat < 128) : bit d 7 = false := by
  rw [bit_seven]
  exact decide_eq_false (Nat.not_le.mpr hd)

/-- One of the first four writes of a sequence. -/
theorem cpuWrite_collect {c : Cart} {m : Mmc1} {n v a : Nat} {d : Byte} (hm : c.mapper = .mmc1 (m.collected n v)) (hn : n < 4)
    (hv : v < 2 ^ n) (ha : 0x8000 ≤ a) (hd : d.toNat < 128) :
    c.cpuWrite a d = { c with mapper := .mmc1 (m.collected (n + 1) (v + 2 ^ n * (d.toNat % 2))) } ∧
      v + 2 ^ n * (d.toNat % 2) < 2 ^ (n + 1) := by
  have hmul : 2 ^ n * (d.toNat % 2) ≤ 2 ^ n * 1 := Nat.mul_le_mul_left _ (by omega)
  refine ⟨?_, by rw [Nat.pow_succ]; omega⟩
  rw [cpuWrite_register c d ha]
  unfold Cart.registerWrite
  rw [hm]
  show c.mmc1Write (m.collected n v) a d = _
  unfold Cart.mmc1Write
  rw [bit_seven_of_lt hd, if_neg Bool.false_ne_true]
  show (if n + 1 = 5 then _ else { c with mapper := .mmc1 (Mmc1.mk (BitVec.ofNat 5 v ||| _) _ _ _ _ _) }) = _
  rw [if_neg (by omega)]
  exact congrArg (fun value => { c with mapper := .mmc1 { m.collected (n + 1) 0 with shiftValue := value } })
    (collect_bit (by omega) hv d)

/-- The fifth write of a sequence. -/
theorem cpuWrite_commit {c : Cart} {m : Mmc1} {v a : Nat} {d : Byte} (hm : c.mapper = .mmc1 (m.collected 4 v))
    (hv : v < 16) (ha : 0x8000 ≤ a) (hd : d.toNat < 128) :
    c.cpuWrite a d = c.mmc1Commit (m.collected 0 0) a (BitVec.ofNat 5 (v + 16 * (d.toNat % 2))) := by
  rw [cpuWrite_register c d ha]
  unfold Cart.registerWrite
  rw [hm]
  show c.mmc1Write (m.collected 4 v) a d = _
  unfold Cart.mmc1Write
  rw [bit_seven_of_lt hd, if_neg Bool.false_ne_true]
  show c.mmc1Commit (m.collected 0 0) a (BitVec.ofNat 5 v ||| _) = _
  exact congrArg _ (collect_bit (n := 4) (Nat.le_refl 4) hv d)

theorem mmc1Mirroring_ofNat {v : Nat} (hv : v < 32) :
    mmc1Mirroring (BitVec.ofNat 5 v) =
      if v % 4 = 0 then .single0 else if v % 4 = 1 then .single1 else if v % 4 = 2 then .vertical else .horizontal := by
  unfold mmc1Mirroring
  rw [BitVec.toNat_ofNat, Nat.mod_eq_of_lt hv]
  have hmod : v % 4 < 4 := Nat.mod_lt _ (by decide)
  generalize v % 4 = k at hmod
  match k with
  | 0 | 1 | 2 | 3 => rfl

/-- The register a commit writes, for the number `v` collected. -/
theorem mmc1Commit_ofNat (c : Cart) (m : Mmc1) (a : Nat) {v : Nat} (hv : v < 32) :
    c.mmc1Commit m a (BitVec.ofNat 5 v) =
      if a < 0xA000 then
        { c with mapper := .mmc1 { m with control := BitVec.ofNat 5 v }
                 mirroring := if v % 4 = 0 then .single0 else if v % 4 = 1 then .single1 else if v % 4 = 2 then .vertical
                   else .horizontal }
      else if a < 0xC000 then { c with mapper := .mmc1 { m with chrBank0 := BitVec.ofNat 5 v } }
      else if a < 0xE000 then { c with mapper := .mmc1 { m with chrBank1 := BitVec.ofNat 5 v } }
      else { c with mapper := .mmc1 { m with prgBank := BitVec.ofNat 4 v } } := by
  have hprg : (BitVec.ofNat 5 v).setWidth 4 = BitVec.ofNat 4 v :=
    BitVec.eq_of_toNat_eq (by rw [BitVec.toNat_setWidth, BitVec.toNat_ofNat, BitVec.toNat_ofNat]; omega)
  unfold Cart.mmc1Commit
  rw [mmc1Mirroring_ofNat hv, hprg]

/-- The control register of a reset write, over its three fields (R501). -/
theorem control_or_prgMode : ∀ x : BitVec 5, (x ||| 0x0C#5).toNat / 4 % 4 = 3 ∧ (x ||| 0x0C#5).toNat % 4 = x.toNat % 4 ∧
    (x ||| 0x0C#5).toNat / 16 = x.toNat / 16 := by decide

/-- Settles O59: four writes collect a bit each, the fifth commits. -/
theorem mmc1SerialWrites : Obligations.Mmc1SerialWrites := by
  refine ⟨fun c m a1 a2 a3 a4 a5 d1 d2 d3 d4 d5 hc hm hcount h1 h2 h3 h4 h5 hd1 hd2 hd3 hd4 hd5 => ?_, fun c m a d hm ha hd => ?_⟩
  · have hvalue : MapperInv (.mmc1 m) := hm ▸ hc.mapper
    have hempty := Mmc1.collected_zero hcount hvalue.2
    obtain ⟨e1, l1⟩ := cpuWrite_collect (c := c) (hempty ▸ hm) (by decide) Nat.zero_lt_one h1 hd1
    obtain ⟨e2, l2⟩ := cpuWrite_collect (congrArg Cart.mapper e1) (by decide) l1 h2 hd2
    obtain ⟨e3, l3⟩ := cpuWrite_collect (congrArg Cart.mapper e2) (by decide) l2 h3 hd3
    obtain ⟨e4, l4⟩ := cpuWrite_collect (congrArg Cart.mapper e3) (by decide) l3 h4 hd4
    have e5 := cpuWrite_commit (congrArg Cart.mapper e4) l4 h5 hd5
    have hsum : 0 + 2 ^ 0 * (d1.toNat % 2) + 2 ^ (0 + 1) * (d2.toNat % 2) + 2 ^ (0 + 1 + 1) * (d3.toNat % 2) +
        2 ^ (0 + 1 + 1 + 1) * (d4.toNat % 2) + 16 * (d5.toNat % 2) =
        d1.toNat % 2 + 2 * (d2.toNat % 2) + 4 * (d3.toNat % 2) + 8 * (d4.toNat % 2) + 16 * (d5.toNat % 2) := by omega
    dsimp only
    rw [e5, hsum, mmc1Commit_ofNat _ _ _ (by omega), hempty, e4, e3, e2, e1]
  · refine ⟨{ m with shiftValue := 0, shiftCount := 0, control := m.control ||| 0x0C#5 }, ?_, rfl, rfl,
      (control_or_prgMode m.control).1, (control_or_prgMode m.control).2.1, (control_or_prgMode m.control).2.2, rfl, rfl, rfl⟩
    have hseven : bit d 7 = true := (bit_seven d).trans (decide_eq_true hd)
    rw [cpuWrite_register c d ha]
    unfold Cart.registerWrite
    rw [hm]
    show c.mmc1Write m a d = _
    unfold Cart.mmc1Write
    rw [if_pos hseven]

end Sys2Proof.Machine
end

section
/-! Proofs about one PPU cycle and the clocks (47_ppu_registers_timing.md R400 to R407, 20_memory.md R110, R111,
70_reset_and_hazards.md R613): what each part of a PPU cycle does, field by field, and from it the statements about positions,
pixels, sprites, vblank and the NMI delay. -/

namespace Sys2Proof.Machine

open Claims hiding pixelIndex

/-! ### The parts of a PPU cycle, each as one record -/

theorem Ppu.pixelPart_eq (p : Ppu) (s c : Nat) :
    p.pixelPart s c = { p with sprite0Hit := (p.pixelPart s c).sprite0Hit, back := (p.pixelPart s c).back } := by
  unfold Ppu.pixelPart
  split <;> rfl

theorem Ppu.statusPart_eq (p : Ppu) (s c : Nat) :
    p.statusPart s c =
      { p with
        vblank := if s = 241 ∧ c = 1 then true else if s = 261 ∧ c = 1 then false else p.vblank
        sprite0Hit := if s = 261 ∧ c = 1 then false else p.sprite0Hit
        spriteOverflow := if s = 261 ∧ c = 1 then false else p.spriteOverflow } := by
  unfold Ppu.statusPart
  by_cases hstart : s = 241 ∧ c = 1
  · rw [if_pos hstart, if_pos hstart, if_neg (by omega), if_neg (by omega)]
  · rw [if_neg hstart, if_neg hstart]
    split <;> rfl

theorem Ppu.advance_eq (p : Ppu) :
    p.advance =
      { p with
        scanline := if p.cycle = 340 then if p.scanline = 261 then 0 else p.scanline + 1 else p.scanline
        cycle := if p.cycle = 340 then 0 else p.cycle + 1
        back := if p.scanline = 261 ∧ p.cycle = 340 then p.front else p.back
        front := if p.scanline = 261 ∧ p.cycle = 340 then p.back else p.front } := by
  unfold Ppu.advance
  by_cases hc : p.cycle = 340 <;> by_cases hs : p.scanline = 261 <;>
    simp [Config.ppuCyclesPerLine, Config.ppuLinesPerFrame, hc, hs]

theorem Ppu.cacheSprites_congr {p q : Ppu} (cart : Cart) (s : Nat) (h : ∀ i, q.spriteEntry cart s i = p.spriteEntry cart s i)
    (is : List Nat) : ∀ (n : Nat) (cache : List Sprite), q.cacheSprites cart s is n cache = p.cacheSprites cart s is n cache := by
  induction is with
  | nil => exact fun _ _ => rfl
  | cons i is ih =>
    intro n cache
    show q.cacheSprites cart s is (n + 1) (cache.set n (q.spriteEntry cart s i)) = _
    rw [h i, ih]
    rfl

theorem Ppu.read_held {p q : Ppu} (h : p.SameHeld q) (cart : Cart) (a : Nat) : q.read cart a = p.read cart a := by
  unfold Ppu.read
  rw [h.vram, h.palette]

theorem Ppu.oamByte_held {p q : Ppu} (h : p.SameHeld q) (i k : Nat) : q.oamByte i k = p.oamByte i k := by
  unfold Ppu.oamByte
  rw [h.oam]

theorem Ppu.spritePattern_held {p q : Ppu} (h : p.SameHeld q) (cart : Cart) (tile attr : Byte) (row : Nat) (big : Bool) :
    q.spritePattern cart tile attr row big = p.spritePattern cart tile attr row big := by
  have haddr : q.spriteAddr tile attr row big = p.spriteAddr tile attr row big := by
    unfold Ppu.spriteAddr Ppu.ctrlSpriteTable
    rw [h.ctrl]
  unfold Ppu.spritePattern
  dsimp only
  rw [haddr, Ppu.read_held h, Ppu.read_held h]

theorem Ppu.spriteEntry_held {p q : Ppu} (h : p.SameHeld q) (cart : Cart) (s i : Nat) :
    q.spriteEntry cart s i = p.spriteEntry cart s i := by
  unfold Ppu.spriteEntry Ppu.ctrlSpriteSize
  rw [Ppu.oamByte_held h, Ppu.oamByte_held h, Ppu.oamByte_held h, Ppu.oamByte_held h, Ppu.spritePattern_held h, h.ctrl]

/-- The evaluator reads OAM, the controller and CHR alone. -/
theorem Ppu.evaluateSprites_held {p q : Ppu} (h : p.SameHeld q) (cart : Cart) (s : Nat) :
    q.evaluateSprites cart s =
      { q with
        sprites := p.cacheSprites cart s ((p.spritesInRange s).take 8) 0 q.sprites
        spriteCount := min (p.spritesInRange s).length 8
        spriteOverflow := q.spriteOverflow || decide (8 < (p.spritesInRange s).length) } := by
  have hrange : q.spritesInRange s = p.spritesInRange s := by
    refine congrArg (fun f => List.filter f (List.range 64)) (funext fun i => ?_)
    unfold Ppu.spriteInRange Ppu.spriteHeight Ppu.ctrlSpriteSize
    rw [Ppu.oamByte_held h, h.ctrl]
  unfold Ppu.evaluateSprites
  dsimp only
  rw [hrange, Ppu.cacheSprites_congr cart s (Ppu.spriteEntry_held h cart s)]

/-- The micro-sequence and its shift: what changes, in the fetching cycles, by phase. -/
theorem Ppu.fetchPart_eq (p : Ppu) (cart : Cart) (c : Nat) :
    let fetching := (1 ≤ c ∧ c ≤ 256) ∨ (321 ≤ c ∧ c ≤ 336)
    p.fetchPart cart c =
      { p with
        v := if fetching ∧ c % 8 = 0 then p.incCoarseX.v else p.v
        ntByte := if fetching ∧ c % 8 = 1 then (p.fetchNt cart).ntByte else p.ntByte
        atBits := if fetching ∧ c % 8 = 3 then (p.fetchAt cart).atBits else p.atBits
        patLo := if fetching ∧ c % 8 = 5 then (p.fetchPatLo cart).patLo else p.patLo
        patHi := if fetching ∧ c % 8 = 7 then (p.fetchPatHi cart).patHi else p.patHi
        bgShift := if fetching then if c % 8 = 0 then p.shiftBg.mergeTile.bgShift else p.bgShift <<< 4 else p.bgShift } := by
  intro fetching
  unfold Ppu.fetchPart
  by_cases h : fetching
  · rw [if_pos h]
    have hphase : c % 8 < 8 := Nat.mod_lt _ (by decide)
    simp only [h, true_and, if_true]
    generalize c % 8 = phase at hphase
    match phase with
    | 0 | 1 | 2 | 3 | 4 | 5 | 6 | 7 => rfl
  · rw [if_neg h]
    simp only [h, false_and, if_false]

theorem Ppu.scrollPart_eq (p : Ppu) (s c : Nat) :
    p.scrollPart s c =
      { p with v := if c = 256 then p.incY.v else if c = 257 then p.copyX.v else
                      if s = 261 ∧ 280 ≤ c ∧ c ≤ 304 then p.copyY.v else p.v } := by
  unfold Ppu.scrollPart preRenderLine
  by_cases h256 : c = 256
  · rw [if_pos h256, if_pos h256]
    rfl
  · by_cases h257 : c = 257
    · rw [if_neg h256, if_neg h256, if_pos h257, if_pos h257]
      rfl
    · rw [if_neg h256, if_neg h256, if_neg h257, if_neg h257, ← Bool.decide_and]
      simp only [decide_eq_true_eq]
      split <;> rfl

/-- The sprite evaluation, in a PPU with the memories and registers of `p`. -/
theorem Ppu.spritePart_eq {p q : Ppu} (h : p.SameHeld q) (hs : q.sprites = p.sprites) (ho : q.spriteOverflow = p.spriteOverflow)
    (cart : Cart) (s c : Nat) :
    q.spritePart cart s c =
      { q with
        sprites := if c = 257 ∧ s ≤ 239 then (p.evaluateSprites cart s).sprites else p.sprites
        spriteCount := if c = 257 then if s ≤ 239 then (p.evaluateSprites cart s).spriteCount else 0 else q.spriteCount
        spriteOverflow := if c = 257 ∧ s ≤ 239 then (p.evaluateSprites cart s).spriteOverflow else p.spriteOverflow } := by
  unfold Ppu.spritePart visibleLine
  by_cases hc : c = 257
  · by_cases hl : s ≤ 239
    · simp only [hc, hl, Ppu.evaluateSprites_held h, hs, ho, decide_true, and_self, if_true]
      rfl
    · simp only [hc, hl, hs, ho, decide_false, and_false, if_true, if_false, Bool.false_eq_true]
  · simp only [hc, false_and, if_false]
    rw [← hs, ← ho]

/-- The picture's two fields that the drawing of a pixel writes. -/
def Ppu.setPicture (p : Ppu) (hit : Bool) (back : Frame) : Ppu := { p with sprite0Hit := hit, back := back }

theorem Ppu.fetchPart_setPicture (p : Ppu) (cart : Cart) (c : Nat) (hit : Bool) (back : Frame) :
    (p.setPicture hit back).fetchPart cart c = (p.fetchPart cart c).setPicture hit back := by
  rw [Ppu.fetchPart_eq, Ppu.fetchPart_eq]
  rfl

theorem Ppu.scrollPart_setPicture (p : Ppu) (s c : Nat) (hit : Bool) (back : Frame) :
    (p.setPicture hit back).scrollPart s c = (p.scrollPart s c).setPicture hit back := by
  rw [Ppu.scrollPart_eq, Ppu.scrollPart_eq]
  rfl

theorem Ppu.spritePart_setPicture (p : Ppu) (cart : Cart) (s c : Nat) (hit : Bool) (back : Frame) :
    (p.setPicture hit back).spritePart cart s c = (p.spritePart cart s c).setPicture hit back := by
  rw [Ppu.spritePart_eq (p := p) (q := p.setPicture hit back) ⟨rfl, rfl, rfl, rfl, rfl, rfl, rfl, rfl, rfl, rfl⟩ rfl rfl,
    Ppu.spritePart_eq (p := p) .rfl rfl rfl]
  rfl

/-- The parts that need rendering leave the picture alone and do not look at it. -/
theorem Ppu.renderPart_setPicture (p : Ppu) (cart : Cart) (s c : Nat) (hit : Bool) (back : Frame) :
    (p.setPicture hit back).renderPart cart s c = (p.renderPart cart s c).setPicture hit back := by
  unfold Ppu.renderPart
  rw [Ppu.fetchPart_setPicture, Ppu.scrollPart_setPicture, Ppu.spritePart_setPicture]
  show (if (p.renderingEnabled && renderLine s) = true then _ else _) = _
  split <;> rfl

/-- What rendering does to a PPU at position `(s, c)`, field by field. -/
theorem Ppu.renderPart_eq (p : Ppu) (cart : Cart) (s c : Nat) :
    p.renderPart cart s c =
      if p.renderingEnabled && renderLine s then
        { (p.fetchPart cart c).scrollPart s c with
          sprites := if c = 257 ∧ s ≤ 239 then (p.evaluateSprites cart s).sprites else p.sprites
          spriteCount := if c = 257 then if s ≤ 239 then (p.evaluateSprites cart s).spriteCount else 0 else p.spriteCount
          spriteOverflow := if c = 257 ∧ s ≤ 239 then (p.evaluateSprites cart s).spriteOverflow else p.spriteOverflow }
      else p := by
  have hheld := (Ppu.fetchPart_held p cart c).trans (Ppu.scrollPart_held (p.fetchPart cart c) s c)
  have hfields : ((p.fetchPart cart c).scrollPart s c).sprites = p.sprites ∧
      ((p.fetchPart cart c).scrollPart s c).spriteOverflow = p.spriteOverflow ∧
      ((p.fetchPart cart c).scrollPart s c).spriteCount = p.spriteCount := by
    rw [Ppu.scrollPart_eq, Ppu.fetchPart_eq]
    exact ⟨rfl, rfl, rfl⟩
  unfold Ppu.renderPart
  rw [Ppu.spritePart_eq hheld hfields.1 hfields.2.1, hfields.2.2]

/-- What a part that needs rendering leaves alone besides: the position, the picture and vblank. -/
theorem Ppu.renderPart_others (p : Ppu) (cart : Cart) (s c : Nat) :
    (p.renderPart cart s c).scanline = p.scanline ∧ (p.renderPart cart s c).cycle = p.cycle ∧
      (p.renderPart cart s c).vblank = p.vblank ∧ (p.renderPart cart s c).front = p.front := by
  rw [Ppu.renderPart_eq]
  split
  · rw [Ppu.scrollPart_eq, Ppu.fetchPart_eq]
    exact ⟨rfl, rfl, rfl, rfl⟩
  · exact ⟨rfl, rfl, rfl, rfl⟩

/-- One PPU cycle as one record: what rendering makes of the PPU, and every other field (R400 to R403). -/
theorem Ppu.dot_eq (p : Ppu) (cart : Cart) :
    p.dot cart =
      { p.renderPart cart p.scanline p.cycle with
        scanline := if p.cycle = 340 then if p.scanline = 261 then 0 else p.scanline + 1 else p.scanline
        cycle := if p.cycle = 340 then 0 else p.cycle + 1
        vblank := if p.scanline = 241 ∧ p.cycle = 1 then true else if p.scanline = 261 ∧ p.cycle = 1 then false else p.vblank
        sprite0Hit := if p.scanline = 261 ∧ p.cycle = 1 then false else (p.pixelPart p.scanline p.cycle).sprite0Hit
        spriteOverflow :=
          if p.scanline = 261 ∧ p.cycle = 1 then false else (p.renderPart cart p.scanline p.cycle).spriteOverflow
        back := if p.scanline = 261 ∧ p.cycle = 340 then p.front else (p.pixelPart p.scanline p.cycle).back
        front := if p.scanline = 261 ∧ p.cycle = 340 then (p.pixelPart p.scanline p.cycle).back else p.front } := by
  have hdrawn : p.pixelPart p.scanline p.cycle =
      p.setPicture (p.pixelPart p.scanline p.cycle).sprite0Hit (p.pixelPart p.scanline p.cycle).back := Ppu.pixelPart_eq p _ _
  obtain ⟨hs, hc, hv, hf⟩ := Ppu.renderPart_others p cart p.scanline p.cycle
  unfold Ppu.dot
  dsimp only
  generalize (p.pixelPart p.scanline p.cycle).sprite0Hit = hit at hdrawn
  generalize (p.pixelPart p.scanline p.cycle).back = back at hdrawn
  rw [hdrawn, Ppu.renderPart_setPicture, Ppu.statusPart_eq, Ppu.advance_eq]
  generalize p.renderPart cart p.scanline p.cycle = r at hs hc hv hf
  unfold Ppu.setPicture
  dsimp only
  rw [hs, hc, hv, hf]

/-! ### Positions (R371, R401, R613) -/

theorem renderingEnabled_eq (p : Ppu) : p.renderingEnabled = decide (p.mask.toNat / 8 % 4 ≠ 0) := by
  unfold Ppu.renderingEnabled Ppu.maskShowBg Ppu.maskShowSprites
  rw [bit_eq, bit_eq, ← Bool.decide_or]
  exact decide_eq_decide.mpr (by omega)

theorem rendering_eq (s : State) : (s.ppu.renderingEnabled && renderLine s.ppu.scanline) = rendering s := by
  rw [renderingEnabled_eq]
  rfl

/-- The position after one PPU cycle. -/
theorem position_ppuDot {s : State} (h : s.Inv) : position (ppuDot s) = (position s + 1) % (341 * 262) := by
  have hline := h.ppu.scanline
  have hcycle := h.ppu.cycle
  unfold position
  rw [ppuDot_ppu, Ppu.dot_eq]
  dsimp only
  by_cases hc : s.ppu.cycle = 340 <;> by_cases hs : s.ppu.scanline = 261
  · simp [hc, hs]
  · rw [if_pos hc, if_pos hc, if_neg hs]
    omega
  · rw [if_neg hc, if_neg hc]
    omega
  · rw [if_neg hc, if_neg hc]
    omega

theorem State.Inv.tickCounters {s : State} (h : s.Inv) : (tickCounters s).Inv :=
  ⟨h.ram, Coordinator.advanceNmiDelay_inv _ h.nmiDelay, h.ppu, h.cart, h.decay⟩

theorem tickIrqLine_ppu (s : State) : (tickIrqLine s).ppu = s.ppu := by
  unfold tickIrqLine
  split <;> rfl

theorem position_tickOne {s : State} (h : s.Inv) : position (tickOne s) = (position s + 3) % (341 * 262) := by
  have h0 := h.tickCounters
  have hirq : ∀ t : State, position (tickIrqLine t) = position t := fun t => by unfold position; rw [tickIrqLine_ppu]
  unfold tickOne
  rw [hirq, position_ppuDot h0.ppuDot.ppuDot, position_ppuDot h0.ppuDot, position_ppuDot h0]
  show (((position s + 1) % (341 * 262) + 1) % (341 * 262) + 1) % (341 * 262) = _
  omega

theorem position_lt {s : State} (h : s.Inv) : position s < 341 * 262 := by
  have hline := h.ppu.scanline
  have hcycle := h.ppu.cycle
  unfold position
  omega

theorem position_tick (n : Nat) : ∀ {s : State}, s.Inv → position (tick n s) = (position s + 3 * n) % (341 * 262) := by
  induction n with
  | zero =>
    intro s h
    rw [Nat.mul_zero, Nat.add_zero, Nat.mod_eq_of_lt (position_lt h)]
    rfl
  | succ n ih =>
    intro s h
    show position (tick n (tickOne s)) = _
    rw [ih h.tickOne, position_tickOne h]
    omega

/-- The pixel part draws nothing in the cycles after 256. -/
theorem Ppu.pixelPart_of_lt {p : Ppu} {s c : Nat} (h : 256 < c) : p.pixelPart s c = p := by
  unfold Ppu.pixelPart
  rw [decide_eq_false (by omega), Bool.and_false, if_neg Bool.false_ne_true]

/-- Settles O49. -/
theorem tickMovesPosition : Obligations.TickMovesPosition := by
  refine ⟨fun n s h => position_tick n h, fun s => ⟨fun hlast => ?_, fun hlast => ?_⟩⟩
  · have hdrawn : s.ppu.pixelPart s.ppu.scanline s.ppu.cycle = s.ppu := Ppu.pixelPart_of_lt (by omega)
    rw [position, ppuDot_frameReady, ppuDot_ppu, Ppu.dot_eq, decide_eq_true hlast, Bool.or_true, hdrawn]
    dsimp only
    rw [if_pos hlast, if_pos hlast, if_pos hlast.2, if_pos hlast.2, if_pos hlast.1]
    exact ⟨rfl, rfl, rfl, rfl⟩
  · rw [ppuDot_frameReady, ppuDot_ppu, Ppu.dot_eq, decide_eq_false hlast, Bool.or_false]
    dsimp only
    rw [if_neg hlast]
    exact ⟨rfl, rfl⟩

/-! ### Pixels, sprites, vblank and the NMI delay (R400 to R403) -/

theorem pixelPart_eq_drawn (p : Ppu) :
    p.pixelPart p.scanline p.cycle =
      if p.scanline ≤ 239 ∧ 1 ≤ p.cycle ∧ p.cycle ≤ 256 then p.renderPixel (p.cycle - 1) p.scanline else p := by
  unfold Ppu.pixelPart visibleLine
  simp only [← Bool.decide_and, decide_eq_true_eq]

/-- The evaluator's three fields after rendering. -/
theorem renderPart_sprites (s : State) :
    let evaluates := rendering s ∧ s.ppu.cycle = 257 ∧ s.ppu.scanline ≤ 239
    let found := s.ppu.evaluateSprites s.cart s.ppu.scanline
    let r := s.ppu.renderPart s.cart s.ppu.scanline s.ppu.cycle
    r.sprites = (if evaluates then found.sprites else s.ppu.sprites) ∧
      r.spriteCount =
        (if evaluates then found.spriteCount else if rendering s ∧ s.ppu.cycle = 257 then 0 else s.ppu.spriteCount) ∧
      r.spriteOverflow = (if evaluates then found.spriteOverflow else s.ppu.spriteOverflow) := by
  dsimp only
  rw [Ppu.renderPart_eq, rendering_eq]
  cases rendering s with
  | false => simp
  | true => by_cases hc : s.ppu.cycle = 257 <;> by_cases hl : s.ppu.scanline ≤ 239 <;> simp [hc, hl]

theorem pixelsAndSprites : PixelsAndSprites := by
  intro s
  obtain ⟨hsprites, hcount, hoverflow⟩ := renderPart_sprites s
  dsimp only
  rw [ppuDot_ppu, Ppu.dot_eq, ← pixelPart_eq_drawn]
  dsimp only
  exact ⟨rfl, rfl, hsprites, hcount, by rw [hoverflow]⟩

theorem nmiPart_nmiDelay (sl c : Nat) (e : Bool) (q : Coordinator) :
    (nmiPart sl c e q).nmiDelay =
      if sl = 241 ∧ c = 1 then if e = true ∧ q.nmiDelay ≠ .canceled then .delayed 14 else q.nmiDelay
      else if sl = 261 ∧ c = 1 then if q.nmiDelay = .canceled then .none else q.nmiDelay
      else q.nmiDelay := by
  obtain ⟨pending, delay, stall⟩ := q
  unfold nmiPart
  split
  · cases e <;> cases delay <;> rfl
  · split
    · cases delay <;> rfl
    · rfl

/-- Settles O53. -/
theorem ppuCycleEvents : Obligations.PpuCycleEvents := by
  refine ⟨pixelsAndSprites, fun s => ?_⟩
  rw [ppuDot_ppu, ppuDot_irq, nmiPart_nmiDelay, Ppu.dot_eq]
  dsimp only
  refine ⟨fun hstart => ?_, fun hclear => ?_, fun hstart hclear => ?_⟩
  · rw [if_pos hstart, if_pos hstart]
    exact ⟨rfl, rfl⟩
  · have hstart : ¬ (s.ppu.scanline = 241 ∧ s.ppu.cycle = 1) := by omega
    rw [if_neg hstart, if_neg hstart, if_pos hclear, if_pos hclear, if_pos hclear, if_pos hclear]
    exact ⟨rfl, rfl, rfl, rfl⟩
  · rw [if_neg hstart, if_neg hstart, if_neg hclear, if_neg hclear]
    exact ⟨rfl, rfl⟩

end Sys2Proof.Machine
end

section
/-! Proofs about the NMI delay (60_exceptions.md R546), the interrupt slot (R541, R542) and the registers and counter of MMC3
(49_mappers.md R521, R530, R531). -/

namespace Sys2Proof.Machine

open Claims hiding pixelIndex

/-! ### The NMI delay (R546) -/

theorem nmiPart_of_no_start {sl c : Nat} {q : Coordinator} (e : Bool) (hpos : ¬ (sl = 241 ∧ c = 1)) (hq : q.nmiDelay ≠ .canceled) :
    nmiPart sl c e q = q := by
  unfold nmiPart
  rw [if_neg hpos]
  split
  · unfold Coordinator.uncancel
    split
    · contradiction
    · rfl
  · rfl

theorem ne_start_of_position {s : State} (hpos : position s ≠ vblankStart) :
    ¬ (s.ppu.scanline = 241 ∧ s.ppu.cycle = 1) := by
  rintro ⟨hs, hc⟩
  exact hpos (by unfold position vblankStart; rw [hs, hc])

/-- A PPU cycle at another position than the vblank start leaves a coordinator alone whose delay is not canceled. -/
theorem ppuDot_irq_of_no_start {s : State} (hpos : position s ≠ vblankStart) (hdelay : s.irq.nmiDelay ≠ .canceled) :
    (ppuDot s).irq = s.irq := by
  rw [ppuDot_irq]
  exact nmiPart_of_no_start _ (ne_start_of_position hpos) hdelay

theorem Coordinator.triggerIrq_of_pending {q : Coordinator} (h : q.pending ≠ .none) : q.triggerIrq = q := by
  unfold Coordinator.triggerIrq
  split
  · contradiction
  · rfl

theorem tickIrqLine_nmiDelay (s : State) : (tickIrqLine s).irq.nmiDelay = s.irq.nmiDelay := by
  unfold tickIrqLine
  split
  · show s.irq.triggerIrq.nmiDelay = _
    unfold Coordinator.triggerIrq
    split <;> rfl
  · rfl

theorem tickIrqLine_of_nmi {s : State} (h : s.irq.pending = .nmi) : (tickIrqLine s).irq.pending = .nmi := by
  unfold tickIrqLine
  split
  · show s.irq.triggerIrq.pending = _
    rw [Coordinator.triggerIrq_of_pending (by rw [h]; decide), h]
  · exact h

/-- A CPU cycle with no vblank start in it moves the delay, and the interrupt check of the mapper comes after. -/
theorem tickOne_of_no_start {s : State} (h : s.Inv) (hpos : ∀ j < 3, (position s + j) % (341 * 262) ≠ vblankStart)
    (hdelay : s.irq.advanceNmiDelay.nmiDelay ≠ .canceled) :
    ∃ u, tickOne s = tickIrqLine u ∧ u.irq = s.irq.advanceNmiDelay := by
  have h0 := h.tickCounters
  have hp0 : position (tickCounters s) = (position s + 0) % (341 * 262) := by
    rw [Nat.add_zero, Nat.mod_eq_of_lt (position_lt h)]
    rfl
  have hp1 : position (ppuDot (tickCounters s)) = (position s + 1) % (341 * 262) := position_ppuDot h0
  have hp2 : position (ppuDot (ppuDot (tickCounters s))) = (position s + 2) % (341 * 262) := by
    rw [position_ppuDot h0.ppuDot, hp1, Nat.mod_add_mod]
  have h1 : (ppuDot (tickCounters s)).irq = s.irq.advanceNmiDelay :=
    ppuDot_irq_of_no_start (hp0 ▸ hpos 0 (by decide)) hdelay
  have h2 : (ppuDot (ppuDot (tickCounters s))).irq = s.irq.advanceNmiDelay :=
    (ppuDot_irq_of_no_start (hp1 ▸ hpos 1 (by decide)) (h1 ▸ hdelay)).trans h1
  have h3 : (ppuDot (ppuDot (ppuDot (tickCounters s)))).irq = s.irq.advanceNmiDelay :=
    (ppuDot_irq_of_no_start (hp2 ▸ hpos 2 (by decide)) (h2 ▸ hdelay)).trans h2
  exact ⟨_, rfl, h3⟩

/-- A delay of more than one counts down. -/
theorem tickOne_delayed {s : State} {n : Nat} (h : s.Inv) (hpos : ∀ j < 3, (position s + j) % (341 * 262) ≠ vblankStart)
    (hn : 2 ≤ n) (hdelay : s.irq.nmiDelay = .delayed n) : (tickOne s).irq.nmiDelay = .delayed (n - 1) := by
  have hadvance : s.irq.advanceNmiDelay.nmiDelay = .delayed (n - 1) := by
    unfold Coordinator.advanceNmiDelay
    rw [hdelay]
    dsimp only
    rw [if_neg (by omega)]
  obtain ⟨u, hu, hirq⟩ := tickOne_of_no_start h hpos (by rw [hadvance]; exact nofun)
  rw [hu, tickIrqLine_nmiDelay, hirq, hadvance]

/-- A delay of one runs out: an NMI is pending. -/
theorem tickOne_delayed_one {s : State} (h : s.Inv) (hpos : ∀ j < 3, (position s + j) % (341 * 262) ≠ vblankStart)
    (hdelay : s.irq.nmiDelay = .delayed 1) : (tickOne s).irq.nmiDelay = .none ∧ (tickOne s).irq.pending = .nmi := by
  have hadvance : s.irq.advanceNmiDelay = { s.irq with nmiDelay := .none, pending := .nmi } := by
    unfold Coordinator.advanceNmiDelay
    rw [hdelay]
    rfl
  obtain ⟨u, hu, hirq⟩ := tickOne_of_no_start h hpos (by rw [hadvance]; exact nofun)
  rw [hadvance] at hirq
  rw [hu, tickIrqLine_nmiDelay, hirq]
  exact ⟨rfl, tickIrqLine_of_nmi (by rw [hirq])⟩

theorem tick_succ (n : Nat) (s : State) : tick (n + 1) s = tickOne (tick n s) := tick_add n 1 s

/-- Settles O54: by induction on the cycles passed, the last of them apart. -/
theorem nmiDelayRunsOut : Obligations.NmiDelayRunsOut := by
  intro s n h hn hdelay hpos
  have hwindow : ∀ k < n, ∀ j < 3, (position (tick k s) + j) % (341 * 262) ≠ vblankStart := by
    intro k hk j hj
    rw [position_tick k h, Nat.mod_add_mod, Nat.add_assoc]
    exact hpos (3 * k + j) (by omega)
  have hcount : ∀ k < n, (tick k s).irq.nmiDelay = .delayed (n - k) := by
    intro k
    induction k with
    | zero => exact fun _ => hdelay
    | succ k ih =>
      intro hk
      rw [tick_succ, tickOne_delayed (h.tick k) (hwindow k (by omega)) (by omega) (ih (by omega)), Nat.sub_sub]
  refine ⟨hcount, ?_⟩
  obtain ⟨m, rfl⟩ : ∃ m, n = m + 1 := ⟨n - 1, by omega⟩
  rw [tick_succ]
  exact tickOne_delayed_one (h.tick m) (hwindow m (Nat.lt_succ_self m))
    ((hcount m (Nat.lt_succ_self m)).trans (congrArg NmiDelay.delayed (by omega)))

/-! ### The registers and the clock of MMC3 (R521, R530) -/

theorem mmc3Registers : Mmc3Registers := by
  intro c m a d hm ha ha'
  have hselect : d.setWidth 3 = BitVec.ofNat 3 d.toNat := rfl
  rw [cpuWrite_register c d ha]
  unfold Cart.registerWrite
  rw [hm]
  show c.mmc3Write m a d = _
  unfold Cart.mmc3Write
  rw [bit_eq d 6, bit_seven, bit_eq d 0]
  simp only [Nat.reducePow, Nat.div_one, decide_eq_true_eq, hselect, hm]

theorem mmc3_clock_eq (m : Mmc3) :
    m.clock =
      if m.irqCounter = 0 then { m with irqCounter := m.irqLatch }
      else { m with irqCounter := m.irqCounter - 1, irqLine := m.irqLine || (m.irqEnable && decide (m.irqCounter.toNat = 1)) } := by
  have hone : m.irqCounter - 1 = 0 ↔ m.irqCounter.toNat = 1 := by
    have := m.irqCounter.isLt
    constructor <;> intro h <;> bv_omega
  unfold Mmc3.clock
  dsimp only
  rw [Bool.and_comm, decide_eq_decide.mpr hone]

theorem ppuDot_cart (s : State) :
    (ppuDot s).cart =
      if s.ppu.cycle = 280 ∧ (s.ppu.scanline ≤ 239 ∨ s.ppu.scanline = 261) ∧ s.ppu.mask.toNat / 8 % 4 ≠ 0 then s.cart.scanlineClock
      else s.cart := by
  have hcond : (decide (s.ppu.cycle = Config.mapperIrqCycle) && renderLine s.ppu.scanline && (s.ppu.dot s.cart).renderingEnabled) =
      decide (s.ppu.cycle = 280 ∧ (s.ppu.scanline ≤ 239 ∨ s.ppu.scanline = 261) ∧ s.ppu.mask.toNat / 8 % 4 ≠ 0) := by
    rw [renderingEnabled_eq, (Ppu.dot_held s.ppu s.cart).mask, Bool.and_assoc, Bool.decide_and, Bool.decide_and, Bool.decide_or]
    rfl
  unfold ppuDot
  dsimp only
  rw [hcond]
  simp only [decide_eq_true_eq]
  split <;> rfl

theorem scanlineClocks : ScanlineClocks := by
  refine ⟨mmc3_clock_eq, fun s => ⟨fun m hm => ?_, fun hm => ?_⟩⟩
  · rw [ppuDot_cart]
    unfold Cart.scanlineClock
    rw [hm]
  · rw [ppuDot_cart]
    have hsame : s.cart.scanlineClock = s.cart := by
      unfold Cart.scanlineClock
      split
      · exact absurd ‹_› (hm _)
      · rfl
    rw [hsame, ite_self]

/-! ### The interrupt slot (R541, R542, R546) -/

theorem asserted_iff (c : Cart) : asserted c ↔ c.irqLine = true := by
  unfold asserted Cart.irqLine
  split
  · next m hm => exact ⟨fun ⟨m', h, hl⟩ => by cases hm.symm.trans h; exact hl, fun hl => ⟨m, hm, hl⟩⟩
  · next hm => exact ⟨fun ⟨m', h, _⟩ => absurd h (hm m'), nofun⟩

theorem tickIrqLine_cart (s : State) : (tickIrqLine s).cart = s.cart := by
  unfold tickIrqLine
  split <;> rfl

/-- What a CPU cycle leaves in the slot: what the delay leaves there, and then the mapper's level. -/
theorem tickOne_pending (s : State) :
    (tickOne s).irq.pending =
      if s.irq.advanceNmiDelay.pending = .none ∧ (tickOne s).cart.irqLine = true then .irq else s.irq.advanceNmiDelay.pending := by
  unfold tickOne
  rw [tickIrqLine_cart]
  have hpending : (ppuDot (ppuDot (ppuDot (tickCounters s)))).irq.pending = s.irq.advanceNmiDelay.pending := by
    rw [ppuDot_irq, nmiPart_pending, ppuDot_irq, nmiPart_pending, ppuDot_irq, nmiPart_pending]
    rfl
  generalize ppuDot (ppuDot (ppuDot (tickCounters s))) = u at hpending
  rw [← hpending]
  unfold tickIrqLine
  cases u.cart.irqLine with
  | false => simp
  | true =>
    simp only [if_true, and_true]
    show u.irq.triggerIrq.pending = _
    unfold Coordinator.triggerIrq
    cases hp : u.irq.pending <;> simp [hp]

theorem advanceNmiDelay_pending (q : Coordinator) :
    ((∃ n, n ≤ 1 ∧ q.nmiDelay = .delayed n) → q.advanceNmiDelay.pending = .nmi) ∧
      ((¬ ∃ n, n ≤ 1 ∧ q.nmiDelay = .delayed n) → q.advanceNmiDelay.pending = q.pending) := by
  constructor
  · rintro ⟨n, hn, hdelay⟩
    unfold Coordinator.advanceNmiDelay
    rw [hdelay]
    dsimp only
    rw [if_pos hn]
    rfl
  · intro hnone
    unfold Coordinator.advanceNmiDelay
    split
    · next n hdelay => rw [if_neg fun hn => hnone ⟨n, hn, hdelay⟩]
    · rfl

theorem slotFilled : SlotFilled := by
  intro s
  obtain ⟨hfires, hkeeps⟩ := advanceNmiDelay_pending s.irq
  rw [tickOne_pending, asserted_iff]
  refine ⟨fun hdelay => ?_, fun hdelay => ⟨fun hempty hline => ?_, fun hother => ?_⟩⟩
  · rw [hfires hdelay, if_neg fun ⟨hnone, _⟩ => (nomatch hnone)]
  · rw [hkeeps hdelay, if_pos ⟨hempty, hline⟩]
  · rw [hkeeps hdelay, if_neg fun ⟨hempty, hline⟩ => hother.elim (absurd hempty) (absurd hline)]

/-! ### Many clocks (R530) -/

theorem clocks_succ (n : Nat) : ∀ m : Mmc3, clocks (n + 1) m = (clocks n m).clock := by
  induction n with
  | zero => exact fun _ => rfl
  | succ n ih => exact fun m => ih m.clock

/-- The counter and the line after `k + 1` clocks; the latch and the enable stay. -/
theorem clocks_counter {m : Mmc3} (hcounter : m.irqCounter = 0) (hline : m.irqLine = false) (henable : m.irqEnable = true) (k : Nat)
    (hk : k ≤ m.irqLatch.toNat) :
    (clocks (k + 1) m).irqCounter.toNat = m.irqLatch.toNat - k ∧
      (clocks (k + 1) m).irqLine = decide (0 < k ∧ k = m.irqLatch.toNat) ∧ (clocks (k + 1) m).irqEnable = true := by
  induction k with
  | zero =>
    show m.clock.irqCounter.toNat = _ ∧ m.clock.irqLine = _ ∧ m.clock.irqEnable = _
    rw [mmc3_clock_eq, if_pos hcounter]
    exact ⟨rfl, by rw [hline]; rfl, henable⟩
  | succ k ih =>
    obtain ⟨hc, hl, he⟩ := ih (by omega)
    rw [clocks_succ, mmc3_clock_eq]
    generalize clocks (k + 1) m = u at hc hl he
    have hne : u.irqCounter ≠ 0 := fun h => by rw [h] at hc; simp at hc; omega
    rw [if_neg hne]
    refine ⟨?_, ?_, he⟩
    · show (u.irqCounter - 1).toNat = _
      have := u.irqCounter.isLt
      bv_omega
    · show (u.irqLine || (u.irqEnable && decide (u.irqCounter.toNat = 1))) = _
      rw [hl, he, hc, Bool.true_and, decide_eq_false (by omega), Bool.false_or]
      exact decide_eq_decide.mpr (by omega)

/-- Settles O60. -/
theorem mmc3CounterAsserts : Obligations.Mmc3CounterAsserts := by
  refine ⟨mmc3Registers, scanlineClocks, slotFilled, fun m k hcounter hline henable hk => ?_⟩
  obtain ⟨hc, hl, -⟩ := clocks_counter hcounter hline henable k hk
  exact ⟨hc, hl⟩

end Sys2Proof.Machine
end

section
/-! Proofs about the scroll registers and the background fetches (47_ppu_registers_timing.md R400 to R407, 48_ppu_rendering.md
R430 to R438). -/

namespace Sys2Proof.Machine

open Claims hiding pixelIndex

/-! ### The fields of a scroll register (R51) -/

/-- The `n` bits from bit `k` on. -/
def bitField (v : BitVec 15) (k n : Nat) : Nat := v.toNat / 2 ^ k % 2 ^ n

theorem coarseX_eq (v : BitVec 15) : coarseX v = bitField v 0 5 := by unfold coarseX bitField; omega
theorem coarseY_eq (v : BitVec 15) : coarseY v = bitField v 5 5 := rfl
theorem tableX_eq (v : BitVec 15) : tableX v = bitField v 10 1 := rfl
theorem tableY_eq (v : BitVec 15) : tableY v = bitField v 11 1 := rfl
theorem fineY_eq (v : BitVec 15) : fineY v = bitField v 12 3 := by have := v.isLt; unfold fineY bitField; omega

theorem bitField_lt (v : BitVec 15) (k n : Nat) : bitField v k n < 2 ^ n := Nat.mod_lt _ (Nat.two_pow_pos n)

@[simp] theorem bitField_and (a b : BitVec 15) (k n : Nat) : bitField (a &&& b) k n = bitField a k n &&& bitField b k n := by
  unfold bitField
  rw [BitVec.toNat_and, Nat.and_div_two_pow, Nat.and_mod_two_pow]

@[simp] theorem bitField_or (a b : BitVec 15) (k n : Nat) : bitField (a ||| b) k n = bitField a k n ||| bitField b k n := by
  unfold bitField
  rw [BitVec.toNat_or, Nat.or_div_two_pow, Nat.or_mod_two_pow]

@[simp] theorem bitField_xor (a b : BitVec 15) (k n : Nat) : bitField (a ^^^ b) k n = bitField a k n ^^^ bitField b k n := by
  unfold bitField
  rw [BitVec.toNat_xor, Nat.xor_div_two_pow, Nat.xor_mod_two_pow]

/-- The field of a mask, a number to compute. -/
@[simp] theorem bitField_ofNat (x k n : Nat) : bitField (BitVec.ofNat 15 x) k n = x % 32768 / 2 ^ k % 2 ^ n := rfl

theorem bitField_and_ones (v : BitVec 15) (k n : Nat) : bitField v k n &&& (2 ^ n - 1) = bitField v k n := by
  rw [Nat.and_two_pow_sub_one_eq_mod, Nat.mod_eq_of_lt (bitField_lt v k n)]

@[simp] theorem bitField_and_31 (v : BitVec 15) (k : Nat) : bitField v k 5 &&& 31 = bitField v k 5 := bitField_and_ones v k 5
@[simp] theorem bitField_mod_2 (v : BitVec 15) (k : Nat) : bitField v k 1 % 2 = bitField v k 1 := Nat.mod_mod _ 2
@[simp] theorem bitField_and_7 (v : BitVec 15) (k : Nat) : bitField v k 3 &&& 7 = bitField v k 3 := bitField_and_ones v k 3

@[simp] theorem bitField_xor_1 (v : BitVec 15) (k : Nat) : bitField v k 1 ^^^ 1 = 1 - bitField v k 1 := by
  have h := bitField_lt v k 1
  generalize bitField v k 1 = b at h
  match b, h with
  | 0, _ | 1, _ => rfl

@[simp] theorem one_sub_bitField_mod_2 (v : BitVec 15) (k : Nat) : (1 - bitField v k 1) % 2 = 1 - bitField v k 1 := by omega

/-! ### The four updates (R404 to R407) -/

theorem copyX_fields (p : Ppu) :
    coarseX p.copyX.v = coarseX p.t ∧ tableX p.copyX.v = tableX p.t ∧ coarseY p.copyX.v = coarseY p.v ∧
      tableY p.copyX.v = tableY p.v ∧ fineY p.copyX.v = fineY p.v := by
  simp [-BitVec.ofNat_eq_ofNat, Ppu.copyX, coarseX_eq, coarseY_eq, tableX_eq, tableY_eq, fineY_eq]

theorem copyY_fields (p : Ppu) :
    coarseX p.copyY.v = coarseX p.v ∧ tableX p.copyY.v = tableX p.v ∧ coarseY p.copyY.v = coarseY p.t ∧
      tableY p.copyY.v = tableY p.t ∧ fineY p.copyY.v = fineY p.t := by
  simp [-BitVec.ofNat_eq_ofNat, Ppu.copyY, coarseX_eq, coarseY_eq, tableX_eq, tableY_eq, fineY_eq]

/-- A number selected by a mask of `n` ones from bit `k` on. -/
theorem and_mask_eq (x k n : Nat) : x &&& 2 ^ k * (2 ^ n - 1) = 2 ^ k * (x / 2 ^ k % 2 ^ n) := by
  have hlow : (x &&& 2 ^ k * (2 ^ n - 1)) % 2 ^ k = 0 := by
    rw [Nat.and_mod_two_pow, Nat.mul_mod_right, Nat.and_zero]
  have hhigh : (x &&& 2 ^ k * (2 ^ n - 1)) / 2 ^ k = x / 2 ^ k % 2 ^ n := by
    rw [Nat.and_div_two_pow, Nat.mul_div_cancel_left _ (Nat.two_pow_pos k), Nat.and_two_pow_sub_one_eq_mod]
  rw [← Nat.div_add_mod (x &&& 2 ^ k * (2 ^ n - 1)) (2 ^ k), hlow, hhigh, Nat.add_zero]

theorem incCoarseX_fields (p : Ppu) :
    coarseX p.incCoarseX.v = (if coarseX p.v = 31 then 0 else coarseX p.v + 1) ∧
      tableX p.incCoarseX.v = (if coarseX p.v = 31 then 1 - tableX p.v else tableX p.v) ∧
      coarseY p.incCoarseX.v = coarseY p.v ∧ tableY p.incCoarseX.v = tableY p.v ∧ fineY p.incCoarseX.v = fineY p.v := by
  have hwrap : (p.v &&& 0x001F#15 = 0x001F#15) ↔ coarseX p.v = 31 := by
    have hx : (p.v &&& 0x001F#15).toNat = coarseX p.v := Nat.and_two_pow_sub_one_eq_mod p.v.toNat 5
    exact ⟨fun h => by rw [← hx, h]; rfl, fun h => BitVec.eq_of_toNat_eq (by rw [hx, h]; rfl)⟩
  by_cases h : coarseX p.v = 31
  · simp only [Ppu.incCoarseX, if_pos (hwrap.mpr h), if_pos h]
    simp [-BitVec.ofNat_eq_ofNat, coarseX_eq, coarseY_eq, tableX_eq, tableY_eq, fineY_eq]
  · simp only [Ppu.incCoarseX, if_neg (mt hwrap.mp h), if_neg h]
    have hv := p.v.isLt
    unfold coarseX at h
    have hsum : (p.v + 1#15).toNat = p.v.toNat + 1 := by bv_omega
    unfold coarseX coarseY tableX tableY fineY
    rw [hsum]
    omega

/-- The coarse-Y step on a register whose fine Y is 0. -/
theorem incCoarseY_fields (v : BitVec 15) :
    fineY (incCoarseY v) = fineY v ∧
      coarseY (incCoarseY v) = (if coarseY v = 29 ∨ coarseY v = 31 then 0 else coarseY v + 1) ∧
      tableY (incCoarseY v) = (if coarseY v = 29 then 1 - tableY v else tableY v) ∧
      coarseX (incCoarseY v) = coarseX v ∧ tableX (incCoarseY v) = tableX v := by
  have hy : ((v &&& 0x03E0#15) >>> 5).toNat = coarseY v := by
    rw [BitVec.toNat_ushiftRight, BitVec.toNat_and, Nat.shiftRight_eq_div_pow]
    rw [show (0x03E0#15).toNat = 2 ^ 5 * (2 ^ 5 - 1) from rfl, and_mask_eq, Nat.mul_div_cancel_left _ (Nat.two_pow_pos 5)]
    rfl
  have hyeq : ∀ n < 32, ((v &&& 0x03E0#15) >>> 5 = BitVec.ofNat 15 n) ↔ coarseY v = n := by
    intro n hn
    have hmod : n % 2 ^ 15 = n := Nat.mod_eq_of_lt (by omega)
    exact ⟨fun h => by rw [← hy, h, BitVec.toNat_ofNat, hmod],
      fun h => BitVec.eq_of_toNat_eq (by rw [hy, h, BitVec.toNat_ofNat, hmod])⟩
  have hlt : coarseY v < 32 := Nat.mod_lt _ (by decide)
  unfold incCoarseY
  dsimp only
  by_cases h29 : coarseY v = 29
  · rw [if_pos ((hyeq 29 (by decide)).mpr h29), if_pos (Or.inl h29), if_pos h29]
    simp [-BitVec.ofNat_eq_ofNat, coarseX_eq, coarseY_eq, tableX_eq, tableY_eq, fineY_eq]
  · rw [if_neg (mt (hyeq 29 (by decide)).mp h29), if_neg h29]
    by_cases h31 : coarseY v = 31
    · rw [if_pos ((hyeq 31 (by decide)).mpr h31), if_pos (Or.inr h31)]
      simp [-BitVec.ofNat_eq_ofNat, coarseX_eq, coarseY_eq, tableX_eq, tableY_eq, fineY_eq]
    · rw [if_neg (mt (hyeq 31 (by decide)).mp h31), if_neg (by omega)]
      have hstep : ((v &&& 0x03E0#15) >>> 5 + 1#15) <<< 5 = BitVec.ofNat 15 (32 * (coarseY v + 1)) := by
        refine BitVec.eq_of_toNat_eq ?_
        rw [BitVec.toNat_shiftLeft, BitVec.toNat_add, hy, BitVec.toNat_ofNat, BitVec.toNat_ofNat, Nat.shiftLeft_eq]
        omega
      rw [hstep]
      generalize coarseY v = row at hlt h31
      have hzero : 32 * (row + 1) % 32768 % 32 = 0 := by omega
      have hrow : 32 * (row + 1) % 32768 / 32 % 32 = row + 1 := by omega
      have hhigh : 32 * (row + 1) % 32768 / 1024 = 0 ∧ 32 * (row + 1) % 32768 / 2048 = 0 ∧ 32 * (row + 1) % 32768 / 4096 = 0 := by
        omega
      simp [-BitVec.ofNat_eq_ofNat, coarseX_eq, coarseY_eq, tableX_eq, tableY_eq, fineY_eq, hzero, hrow, hhigh]

theorem incY_fields (p : Ppu) :
    fineY p.incY.v = (if fineY p.v < 7 then fineY p.v + 1 else 0) ∧
      coarseY p.incY.v =
        (if fineY p.v < 7 then coarseY p.v else if coarseY p.v = 29 ∨ coarseY p.v = 31 then 0 else coarseY p.v + 1) ∧
      tableY p.incY.v = (if fineY p.v = 7 ∧ coarseY p.v = 29 then 1 - tableY p.v else tableY p.v) ∧
      coarseX p.incY.v = coarseX p.v ∧ tableX p.incY.v = tableX p.v := by
  have hmask : (p.v &&& 0x7000#15).toNat = 4096 * fineY p.v := by
    rw [fineY_eq]
    exact and_mask_eq p.v.toNat 12 3
  have hlast : (p.v &&& 0x7000#15 ≠ 0x7000#15) ↔ fineY p.v < 7 := by
    have hlt : fineY p.v < 8 := by rw [fineY_eq]; exact bitField_lt p.v 12 3
    rw [Ne, ← BitVec.toNat_inj, hmask]
    show ¬ 4096 * fineY p.v = 28672 ↔ _
    omega
  by_cases h : fineY p.v < 7
  · simp only [Ppu.incY, if_pos (hlast.mpr h), if_pos h]
    have hv := p.v.isLt
    unfold fineY at h ⊢
    have hsum : (p.v + 0x1000#15).toNat = p.v.toNat + 4096 := by bv_omega
    unfold coarseX coarseY tableX tableY
    rw [hsum, if_neg (by omega)]
    omega
  · have h7 : fineY p.v = 7 := by
      have hlt : fineY p.v < 8 := by rw [fineY_eq]; exact bitField_lt p.v 12 3
      omega
    obtain ⟨hfine, hrow, htable, hcol, htableX⟩ := incCoarseY_fields (p.v &&& 0x0FFF#15)
    have hkept : fineY (p.v &&& 0x0FFF#15) = 0 ∧ coarseY (p.v &&& 0x0FFF#15) = coarseY p.v ∧
        tableY (p.v &&& 0x0FFF#15) = tableY p.v ∧ coarseX (p.v &&& 0x0FFF#15) = coarseX p.v ∧
        tableX (p.v &&& 0x0FFF#15) = tableX p.v := by
      simp [-BitVec.ofNat_eq_ofNat, coarseX_eq, coarseY_eq, tableX_eq, tableY_eq, fineY_eq]
    obtain ⟨kfine, krow, ktable, kcol, ktableX⟩ := hkept
    simp only [Ppu.incY, if_neg (mt hlast.mp h), h7, true_and]
    rw [hfine, hrow, htable, hcol, htableX, kfine, krow, ktable, kcol, ktableX]
    exact ⟨rfl, rfl, rfl, rfl, rfl⟩

/-! ### When the updates come (R400) -/

theorem fetching_eq (s : State) :
    fetching s = true ↔
      rendering s = true ∧ ((1 ≤ s.ppu.cycle ∧ s.ppu.cycle ≤ 256) ∨ (321 ≤ s.ppu.cycle ∧ s.ppu.cycle ≤ 336)) := by
  unfold fetching
  rw [Bool.and_eq_true, Bool.or_eq_true, decide_eq_true_eq, decide_eq_true_eq]

theorem incY_congr {p q : Ppu} (hv : q.v = p.v) : q.incY.v = p.incY.v := by
  unfold Ppu.incY
  rw [hv]

theorem copyX_congr {p q : Ppu} (hv : q.v = p.v) (ht : q.t = p.t) : q.copyX.v = p.copyX.v := by
  unfold Ppu.copyX
  rw [hv, ht]

theorem copyY_congr {p q : Ppu} (hv : q.v = p.v) (ht : q.t = p.t) : q.copyY.v = p.copyY.v := by
  unfold Ppu.copyY
  rw [hv, ht]

theorem scrollPositions : ScrollPositions := by
  intro s
  have hheld := Ppu.dot_held s.ppu s.cart
  dsimp only
  rw [ppuDot_ppu]
  refine ⟨?_, hheld.t, hheld.fineX, hheld.w⟩
  rw [Ppu.dot_eq]
  dsimp only
  rw [Ppu.renderPart_eq, rendering_eq]
  have hfetching := fetching_eq s
  cases hr : rendering s with
  | false => rfl
  | true =>
    rw [hr] at hfetching
    simp only [true_and] at hfetching
    have ht : (s.ppu.fetchPart s.cart s.ppu.cycle).t = s.ppu.t := (Ppu.fetchPart_held _ _ _).t
    have hv : (s.ppu.fetchPart s.cart s.ppu.cycle).v =
        if fetching s ∧ s.ppu.cycle % 8 = 0 then s.ppu.incCoarseX.v else s.ppu.v := by
      simp only [Ppu.fetchPart_eq, hfetching]
    generalize s.ppu.fetchPart s.cart s.ppu.cycle = q at ht hv
    simp only [Ppu.scrollPart_eq, if_true, Bool.true_eq_false, if_false]
    by_cases h256 : s.ppu.cycle = 256
    · rw [if_pos h256, if_pos h256]
      exact incY_congr (hv.trans (if_pos ⟨hfetching.mpr (by omega), by omega⟩))
    · rw [if_neg h256, if_neg h256]
      by_cases h257 : s.ppu.cycle = 257
      · rw [if_pos h257, if_pos h257]
        exact copyX_congr (hv.trans (if_neg fun h => by have := hfetching.mp h.1; omega)) ht
      · rw [if_neg h257, if_neg h257]
        by_cases hcopy : s.ppu.scanline = 261 ∧ 280 ≤ s.ppu.cycle ∧ s.ppu.cycle ≤ 304
        · rw [if_pos hcopy, if_pos hcopy]
          exact copyY_congr (hv.trans (if_neg fun h => by have := hfetching.mp h.1; omega)) ht
        · rw [if_neg hcopy, if_neg hcopy]
          exact hv

/-! ### Rows of eight pixels (R436, R451) -/

theorem num_bit (b : Byte) (k : Nat) : num (bit b k) = b.toNat / 2 ^ k % 2 := by
  rw [bit_eq]
  unfold num
  rcases Nat.mod_two_eq_zero_or_one (b.toNat / 2 ^ k) with h | h <;> simp [h]

theorem toNat_pixelNibble (pal : BitVec 2) (hi lo : Byte) (k : Nat) :
    (pixelNibble pal hi lo k).toNat = 4 * pal.toNat + 2 * (hi.toNat / 2 ^ k % 2) + lo.toNat / 2 ^ k % 2 := by
  have hpal := pal.isLt
  have hhi : hi.toNat / 2 ^ k % 2 < 2 := Nat.mod_lt _ Nat.zero_lt_two
  have hlo : lo.toNat / 2 ^ k % 2 < 2 := Nat.mod_lt _ Nat.zero_lt_two
  unfold pixelNibble
  rw [BitVec.toNat_or, BitVec.toNat_or, BitVec.toNat_shiftLeft, BitVec.toNat_shiftLeft, BitVec.toNat_setWidth, BitVec.toNat_setWidth,
    BitVec.toNat_setWidth, toNat_bitByte, toNat_bitByte, num_bit, num_bit, Nat.shiftLeft_eq, Nat.shiftLeft_eq]
  generalize hi.toNat / 2 ^ k % 2 = a at hhi
  generalize lo.toNat / 2 ^ k % 2 = b at hlo
  calc _ = 2 ^ 2 * pal.toNat ||| 2 * a ||| b := by congr 2 <;> omega
    _ = 2 ^ 1 * (2 * pal.toNat + a) ||| b := by rw [mul_two_pow_or (by omega)]; congr 1; omega
    _ = 4 * pal.toNat + 2 * a + b := by rw [mul_two_pow_or (by omega)]; omega

/-- Packing pixels into a row appends four bits each. -/
theorem toNat_pack (pal : BitVec 2) (hi lo : Byte) (k : Nat → Nat) (js : List Nat) : ∀ (n : Nat) (acc : BitVec 32),
    acc.toNat < 16 ^ n → n + js.length ≤ 8 →
    ((js.map k).foldl (fun (acc : BitVec 32) k => (acc <<< 4) ||| (pixelNibble pal hi lo k).setWidth 32) acc).toNat =
      js.foldl (fun row j => 16 * row + (4 * pal.toNat + 2 * (hi.toNat / 2 ^ k j % 2) + lo.toNat / 2 ^ k j % 2)) acc.toNat := by
  induction js with
  | nil => exact fun _ _ _ _ => rfl
  | cons j js ih =>
    intro n acc hacc hn
    rw [List.length_cons] at hn
    have hlt := (pixelNibble pal hi lo (k j)).isLt
    have hpow : 16 ^ (n + 1) ≤ 16 ^ 8 := Nat.pow_le_pow_right (by decide) (by omega)
    rw [Nat.pow_succ] at hpow
    have hstep : ((acc <<< 4) ||| (pixelNibble pal hi lo (k j)).setWidth 32).toNat =
        16 * acc.toNat + (pixelNibble pal hi lo (k j)).toNat := by
      rw [BitVec.toNat_or, BitVec.toNat_shiftLeft, BitVec.toNat_setWidth, Nat.shiftLeft_eq,
        Nat.mod_eq_of_lt (by omega : acc.toNat * 2 ^ 4 < 2 ^ 32),
        Nat.mod_eq_of_lt (by omega : (pixelNibble pal hi lo (k j)).toNat < 2 ^ 32), Nat.mul_comm]
      exact mul_two_pow_or hlt
    rw [List.map_cons, List.foldl_cons, List.foldl_cons, ih (n + 1) _ (by rw [hstep, Nat.pow_succ]; omega) (by omega), hstep,
      toNat_pixelNibble]

theorem toNat_packNibbles (pal : BitVec 2) (hi lo : Byte) (k : Nat → Nat) :
    (packNibbles pal hi lo ((List.range 8).map k)).toNat = tileRow pal.toNat hi lo k :=
  toNat_pack pal hi lo k (List.range 8) 0 0#32 (by decide) (by decide)

theorem packNibbles_eq (pal : BitVec 2) (hi lo : Byte) (k : Nat → Nat) :
    packNibbles pal hi lo ((List.range 8).map k) = BitVec.ofNat 32 (tileRow pal.toNat hi lo k) := by
  rw [← toNat_packNibbles, BitVec.ofNat_toNat, BitVec.setWidth_eq]

theorem tileRow_lt (pal : BitVec 2) (hi lo : Byte) (k : Nat → Nat) : tileRow pal.toNat hi lo k < 2 ^ 32 := by
  rw [← toNat_packNibbles]
  exact BitVec.isLt _

/-! ### The fetches (R432 to R438) -/

theorem read_pattern (p : Ppu) (cart : Cart) {a : Nat} (ha : a < 0x2000) : p.read cart a = cart.ppuRead a := by
  unfold Ppu.read
  rw [Nat.mod_eq_of_lt (by omega)]
  exact if_pos ha

theorem read_nametable (p : Ppu) (cart : Cart) {a : Nat} (ha : 0x2000 ≤ a) (ha' : a < 0x3F00) :
    p.read cart a = p.vram.read (ntIndex cart.mirroring a) := by
  unfold Ppu.read
  rw [Nat.mod_eq_of_lt (by omega)]
  dsimp only
  rw [if_neg (by omega), if_pos ha']

theorem fetchNt_eq (p : Ppu) (cart : Cart) : (p.fetchNt cart).ntByte = tileName p cart := by
  have haddr : 0x2000 ||| (p.v.toNat &&& 0x0FFF) = 0x2000 + p.v.toNat % 0x1000 := by
    rw [show p.v.toNat &&& 0x0FFF = p.v.toNat % 0x1000 from Nat.and_two_pow_sub_one_eq_mod p.v.toNat 12]
    exact mul_two_pow_or (x := 2) (k := 12) (by omega)
  show p.read cart (0x2000 ||| (p.v.toNat &&& 0x0FFF)) = _
  rw [haddr]
  exact read_nametable p cart (by omega) (by omega)

theorem attributeAddr_eq (v : BitVec 15) :
    attributeAddr v.toNat = 0x23C0 + 0x400 * (v.toNat / 0x400 % 4) + 8 * (coarseY v / 4) + coarseX v / 4 := by
  have htable : v.toNat &&& 0x0C00 = 2 ^ 10 * (v.toNat / 2 ^ 10 % 2 ^ 2) := and_mask_eq v.toNat 10 2
  have hrow : (v.toNat >>> 4) &&& 0x38 = 2 ^ 3 * (v.toNat >>> 4 / 2 ^ 3 % 2 ^ 3) := and_mask_eq (v.toNat >>> 4) 3 3
  have hcol : (v.toNat >>> 2) &&& 0x07 = v.toNat >>> 2 % 2 ^ 3 := Nat.and_two_pow_sub_one_eq_mod _ 3
  unfold attributeAddr coarseY coarseX
  rw [htable, hrow, hcol, Nat.shiftRight_eq_div_pow, Nat.shiftRight_eq_div_pow]
  have hbase : ∀ a < 4, 0x23C0 ||| 2 ^ 10 * a = 2 ^ 6 * (0x8F + 16 * a) := by decide
  rw [hbase _ (by omega), mul_two_pow_or (by omega)]
  have hsplit : 2 ^ 6 * (0x8F + 16 * (v.toNat / 2 ^ 10 % 2 ^ 2)) + 2 ^ 3 * (v.toNat / 2 ^ 4 / 2 ^ 3 % 2 ^ 3) =
      2 ^ 3 * (8 * (0x8F + 16 * (v.toNat / 2 ^ 10 % 2 ^ 2)) + v.toNat / 2 ^ 4 / 2 ^ 3 % 2 ^ 3) := by omega
  rw [hsplit, mul_two_pow_or (by omega)]
  omega

theorem attributeShift_eq (v : BitVec 15) :
    attributeShift v.toNat = 4 * (coarseY v / 2 % 2) + 2 * (coarseX v / 2 % 2) := by
  have hrow : (v.toNat >>> 4) &&& 0x04 = 2 ^ 2 * (v.toNat >>> 4 / 2 ^ 2 % 2 ^ 1) := and_mask_eq (v.toNat >>> 4) 2 1
  have hcol : v.toNat &&& 0x02 = 2 ^ 1 * (v.toNat / 2 ^ 1 % 2 ^ 1) := and_mask_eq v.toNat 1 1
  unfold attributeShift coarseY coarseX
  rw [hrow, hcol, Nat.shiftRight_eq_div_pow, mul_two_pow_or (by omega)]
  omega

theorem fetchAt_eq (p : Ppu) (cart : Cart) : (p.fetchAt cart).atBits = tilePalette p cart := by
  have hy : coarseY p.v < 32 := Nat.mod_lt _ (by decide)
  have hx : coarseX p.v < 32 := Nat.mod_lt _ (by decide)
  show (p.read cart (attributeAddr p.v.toNat) >>> attributeShift p.v.toNat).setWidth 2 = _
  unfold tilePalette
  rw [attributeAddr_eq, attributeShift_eq, read_nametable p cart (by omega) (by omega)]
  refine BitVec.eq_of_toNat_eq ?_
  rw [BitVec.toNat_setWidth, BitVec.toNat_ushiftRight, Nat.shiftRight_eq_div_pow, BitVec.toNat_ofNat]

theorem patternAddr_eq (p : Ppu) : p.patternAddr = patternAddress p := by
  have hv := p.v.isLt
  have htable : bitNat p.ctrlBgTable = p.ctrl.toNat / 16 % 2 := num_bit p.ctrl 4
  unfold Ppu.patternAddr patternAddress fineY
  rw [htable]
  omega

theorem patternAddress_lt (p : Ppu) : patternAddress p + 8 < 0x2000 := by
  have hv := p.v.isLt
  have hnt := p.ntByte.isLt
  unfold patternAddress fineY
  omega

theorem fetchPatLo_eq (p : Ppu) (cart : Cart) : (p.fetchPatLo cart).patLo = cart.ppuRead (patternAddress p) := by
  show p.read cart p.patternAddr = _
  have := patternAddress_lt p
  rw [patternAddr_eq, read_pattern p cart (by omega)]

theorem fetchPatHi_eq (p : Ppu) (cart : Cart) : (p.fetchPatHi cart).patHi = cart.ppuRead (patternAddress p + 8) := by
  show p.read cart (p.patternAddr + 8) = _
  rw [patternAddr_eq, read_pattern p cart (patternAddress_lt p)]

theorem mergeTile_eq (p : Ppu) :
    p.shiftBg.mergeTile.bgShift =
      (p.bgShift <<< 4) ||| BitVec.ofNat 64 (tileRow p.atBits.toNat p.patHi p.patLo (fun j => 7 - j)) := by
  have hrow := packNibbles_eq p.atBits p.patHi p.patLo (fun j => 7 - j)
  have hlt := tileRow_lt p.atBits p.patHi p.patLo (fun j => 7 - j)
  show (p.bgShift <<< 4) ||| (packNibbles p.atBits p.patHi p.patLo ((List.range 8).map fun j => 7 - j)).setWidth 64 = _
  rw [hrow]
  congr 1
  refine BitVec.eq_of_toNat_eq ?_
  rw [BitVec.toNat_setWidth, BitVec.toNat_ofNat, BitVec.toNat_ofNat, Nat.mod_eq_of_lt hlt]

theorem backgroundFetch : BackgroundFetch := by
  intro s
  have hfetching := fetching_eq s
  dsimp only
  rw [ppuDot_ppu, Ppu.dot_eq]
  dsimp only
  rw [Ppu.renderPart_eq, rendering_eq]
  cases hr : rendering s with
  | false =>
    have hno : ¬ fetching s = true := by rw [hfetching, hr]; exact fun h => Bool.false_ne_true h.1
    simp [hno]
  | true =>
    rw [hr] at hfetching
    simp only [true_and] at hfetching
    simp only [if_true, Ppu.scrollPart_eq, Ppu.fetchPart_eq, ← hfetching]
    rw [fetchNt_eq, fetchAt_eq, fetchPatLo_eq, fetchPatHi_eq, mergeTile_eq]
    refine ⟨rfl, rfl, rfl, rfl, ?_⟩
    split
    · split
      · rfl
      · exact (BitVec.or_zero).symm
    · rfl

/-- Settles O55. -/
theorem scrollUpdates : Obligations.ScrollUpdates :=
  ⟨scrollPositions, backgroundFetch, fun p => ⟨incCoarseX_fields p, incY_fields p, copyX_fields p, copyY_fields p⟩⟩

end Sys2Proof.Machine
end

section
/-! Proofs about the sprite evaluator and the compositor (48_ppu_rendering.md R450 to R467). -/

namespace Sys2Proof.Machine

open Claims hiding pixelIndex

/-! ### The cache (R450) -/

/-- Filling the cache from slot `n` on leaves the slots below alone. -/
theorem cacheSprites_getElem?_lt (p : Ppu) (cart : Cart) (s : Nat) (is : List Nat) : ∀ {n k : Nat} (cache : List Sprite), k < n →
    (p.cacheSprites cart s is n cache)[k]? = cache[k]? := by
  induction is with
  | nil => exact fun _ _ => rfl
  | cons i is ih =>
    intro n k cache hk
    exact (ih _ (Nat.lt_succ_of_lt hk)).trans (List.getElem?_set_ne (Nat.ne_of_gt hk))

/-- Slot `n + k` holds the entry of the `k`-th index. -/
theorem cacheSprites_getElem? (p : Ppu) (cart : Cart) (s : Nat) (is : List Nat) : ∀ {n k i : Nat} (cache : List Sprite),
    n + is.length ≤ cache.length → is[k]? = some i → (p.cacheSprites cart s is n cache)[n + k]? = some (p.spriteEntry cart s i) := by
  induction is with
  | nil => exact fun _ _ h => nomatch h
  | cons i is ih =>
    intro n k i' cache hlen hk
    rw [List.length_cons] at hlen
    cases k with
    | zero =>
      obtain rfl : i = i' := Option.some.inj hk
      refine (cacheSprites_getElem?_lt p cart s is _ (Nat.lt_succ_self n)).trans ?_
      exact List.getElem?_set_self (by omega)
    | succ k =>
      rw [Nat.add_succ, ← Nat.succ_add]
      exact ih _ (by rw [List.length_set]; omega) hk

theorem spritesInRange_eq (p : Ppu) (s : Nat) : p.spritesInRange s = inRange p s := by
  refine List.filter_congr fun i _ => ?_
  unfold Ppu.spriteInRange Ppu.spriteHeight Ppu.oamByte
  dsimp only
  rw [← Bool.decide_and, ← Bool.decide_and]
  exact decide_eq_decide.mpr (by simp only [Nat.add_zero]; omega)

/-- A sprite in range starts at the line or above, and reaches it. -/
theorem row_lt_of_mem_inRange {p : Ppu} {s i : Nat} (h : i ∈ inRange p s) :
    s - (p.oam.read (4 * i)).toNat < if p.ctrlSpriteSize then 16 else 8 := by
  have hrange := (List.mem_filter.mp h).2
  rw [← Bool.decide_and, decide_eq_true_eq] at hrange
  generalize (if p.ctrlSpriteSize = true then 16 else 8) = height at hrange ⊢
  omega

/-! ### The pattern row of a sprite (R451, R452) -/

/-- Where a sprite's row lies: the row of its tile, or of the upper or lower tile of a tall sprite. -/
theorem spriteAddr_eq (p : Ppu) (tile attr : Byte) {row : Nat} (hrow : row < if p.ctrlSpriteSize then 16 else 8) :
    let tall := p.ctrl.toNat / 32 % 2 = 1
    let r := if 128 ≤ attr.toNat then (if tall then 15 else 7) - row else row
    p.spriteAddr tile attr row p.ctrlSpriteSize =
      if tall then 0x1000 * (tile.toNat % 2) + 16 * (tile.toNat / 2 * 2 + r / 8) + r % 8
      else 0x1000 * (p.ctrl.toNat / 8 % 2) + 16 * tile.toNat + r := by
  have hsize : p.ctrlSpriteSize = decide (p.ctrl.toNat / 32 % 2 = 1) := bit_eq p.ctrl 5
  have htable : bitNat p.ctrlSpriteTable = p.ctrl.toNat / 8 % 2 := num_bit p.ctrl 3
  have htop : tile.toNat &&& 0xFE = tile.toNat / 2 * 2 := and_even_mask (k := 7) tile.isLt
  unfold Ppu.spriteAddr
  dsimp only
  rw [bit_seven, htable, htop]
  rw [hsize] at hrow ⊢
  by_cases htall : p.ctrl.toNat / 32 % 2 = 1
  · simp only [htall, decide_true, if_true] at hrow ⊢
    by_cases hflip : 128 ≤ attr.toNat
    · simp only [hflip, decide_true, if_true]
      split <;> omega
    · simp only [hflip, decide_false, if_false, Bool.false_eq_true]
      split <;> omega
  · simp only [htall, decide_false, if_false, Bool.false_eq_true] at hrow ⊢
    simp only [decide_eq_true_eq]

theorem rowOrder_eq (attr : Byte) : (if bit attr 6 then rightToLeft else leftToRight) =
    (List.range 8).map fun j => if attr.toNat / 64 % 2 = 1 then j else 7 - j := by
  rw [bit_eq]
  by_cases h : attr.toNat / 64 % 2 = 1
  · simp only [Nat.reducePow, h, decide_true, if_true]
    rfl
  · simp only [Nat.reducePow, h, decide_false, if_false, Bool.false_eq_true]
    rfl

/-- The whole row lies in the pattern tables. -/
theorem spriteAddr_lt (p : Ppu) (tile attr : Byte) {row : Nat} (hrow : row < if p.ctrlSpriteSize then 16 else 8) :
    p.spriteAddr tile attr row p.ctrlSpriteSize + 8 < 0x2000 := by
  have htile := tile.isLt
  have hsize : p.ctrlSpriteSize = decide (p.ctrl.toNat / 32 % 2 = 1) := bit_eq p.ctrl 5
  rw [spriteAddr_eq p tile attr hrow]
  rw [hsize] at hrow
  by_cases htall : p.ctrl.toNat / 32 % 2 = 1
  · simp only [htall, decide_true, if_true] at hrow ⊢
    split <;> omega
  · simp only [htall, decide_false, if_false, Bool.false_eq_true] at hrow ⊢
    split <;> omega

theorem spritePattern_eq (p : Ppu) (cart : Cart) {s i : Nat} (h : i ∈ inRange p s) :
    (p.spriteEntry cart s i).pattern = BitVec.ofNat 32 (spriteRow p cart s i) := by
  have hrow := row_lt_of_mem_inRange h
  have haddr := spriteAddr_eq p (p.oam.read (4 * i + 1)) (p.oam.read (4 * i + 2)) hrow
  have hlt := spriteAddr_lt p (p.oam.read (4 * i + 1)) (p.oam.read (4 * i + 2)) hrow
  have hpal : ((p.oam.read (4 * i + 2)).setWidth 2).toNat = (p.oam.read (4 * i + 2)).toNat % 4 := BitVec.toNat_setWidth 2 _
  show p.spritePattern cart (p.oam.read (4 * i + 1)) (p.oam.read (4 * i + 2)) (s - (p.oam.read (4 * i)).toNat) p.ctrlSpriteSize = _
  unfold Ppu.spritePattern
  dsimp only
  rw [rowOrder_eq, packNibbles_eq, hpal, read_pattern p cart hlt, read_pattern p cart (by omega), haddr]
  rfl

/-- Settles O56. -/
theorem spriteEvaluation : Obligations.SpriteEvaluation := by
  intro p c s hcache
  rw [← spritesInRange_eq]
  refine ⟨Nat.min_comm _ _, rfl, fun k i hk hi => ⟨p.spriteEntry c s i, ?_, rfl, rfl, ?_, bit_eq _ 5⟩⟩
  · have hslot := cacheSprites_getElem? p c s ((p.spritesInRange s).take 8) (n := 0) (k := k) (i := i) p.sprites
      (by rw [List.length_take, hcache.length]; omega) (by rw [List.getElem?_take_of_lt hk, hi])
    rwa [Nat.zero_add] at hslot
  · exact spritePattern_eq p c (spritesInRange_eq p s ▸ List.mem_of_getElem? hi)

/-! ### Frame buffers (R460, R470) -/

theorem Memory.wf_of_ok {size : Nat} {m : Memory} (h : Memory.ok size m = true) : m.wf = true := by
  unfold Memory.ok at h
  exact (Bool.and_eq_true_iff.mp h).1

theorem row_wf_of_ok {f : Frame} (h : Frame.ok f = true) (py : Nat) : (f.getD py []).wf = true := by
  simp only [Frame.ok, Bool.and_eq_true, List.all_eq_true] at h
  rw [List.getD_eq_getElem?_getD]
  cases hrow : f[py]? with
  | none => rfl
  | some row =>
    exact Memory.wf_of_ok (h.2 row (List.mem_of_getElem? hrow)).1

theorem pixel_setPixel {f : Frame} (h : Frame.ok f = true) {px py : Nat} (hy : py < 240) (b : Byte) (x y : Nat) :
    (f.setPixel px py b).pixel x y = if (x, y) = (px, py) then b else f.pixel x y := by
  have hlen : f.length = 240 := by
    simp only [Frame.ok, Bool.and_eq_true, decide_eq_true_eq] at h
    exact h.1
  unfold Frame.setPixel Frame.pixel
  by_cases hrow : y = py
  · subst hrow
    rw [List.getD_eq_getElem?_getD, List.getElem?_set_self (by omega), Option.getD_some, Memory.read_write _ _ _ _ (row_wf_of_ok h y)]
    simp only [Prod.mk.injEq, and_true]
  · rw [List.getD_eq_getElem?_getD, List.getElem?_set_ne (Ne.symm hrow), ← List.getD_eq_getElem?_getD]
    simp only [Prod.mk.injEq, hrow, and_false, if_false]

/-! ### The pixels of the background and of the sprites (R461 to R465) -/

theorem toNat_bgAt (p : Ppu) (px : Nat) : (p.bgAt px).toNat = background p px := by
  unfold Ppu.bgAt Ppu.bgPixel background
  by_cases hshown : p.maskShowBg = false ∨ (px < 8 ∧ p.maskShowBgLeft = false)
  · rw [if_pos hshown]
    rcases hshown with h | ⟨hleft, h⟩
    · simp [h]
    · simp [h, Nat.not_le.mpr hleft]
  · rw [if_neg hshown]
    obtain ⟨hbg, hleft⟩ := not_or.mp hshown
    have hclip : (decide (8 ≤ px) || p.maskShowBgLeft) = true := by
      rw [Bool.or_eq_true, decide_eq_true_eq]
      cases hl : p.maskShowBgLeft
      · exact .inl (Nat.not_lt.mp fun hlt => hleft ⟨hlt, hl⟩)
      · exact .inr rfl
    rw [if_pos hclip, if_pos (Bool.not_eq_false _ ▸ hbg), BitVec.toNat_setWidth, BitVec.toNat_ushiftRight, Nat.shiftRight_eq_div_pow]

theorem toNat_spritePixel (sp : Sprite) (px : Nat) :
    (sp.pixel px).toNat = if sp.sx.toNat ≤ px ∧ px ≤ sp.sx.toNat + 7 then spriteNibble sp px else 0 := by
  unfold Sprite.pixel
  dsimp only
  by_cases h : px < sp.sx.toNat ∨ sp.sx.toNat + 7 < px
  · rw [if_pos h, if_neg (by omega)]
    rfl
  · rw [if_neg h, if_pos (by omega), BitVec.toNat_setWidth, BitVec.toNat_ushiftRight, Nat.shiftRight_eq_div_pow]
    rfl

theorem opaque_spritePixel (sp : Sprite) (px : Nat) : opaquePixel (sp.pixel px) = covers px sp := by
  unfold opaquePixel covers
  rw [toNat_spritePixel, ← Bool.decide_and, ← Bool.decide_and]
  refine decide_eq_decide.mpr ?_
  split <;> simp [*]

theorem firstSprite_eq (px : Nat) (sprites : List Sprite) : firstSprite px sprites = sprites.find? (covers px) := by
  induction sprites with
  | nil => rfl
  | cons sp rest ih =>
    rw [List.find?_cons]
    unfold firstSprite
    rw [opaque_spritePixel, ih]
    cases covers px sp <;> rfl

theorem spriteAt_eq (p : Ppu) (px : Nat) : p.spriteAt px = foreground p px := by
  unfold Ppu.spriteAt foreground
  rw [firstSprite_eq]
  by_cases hleft : px < 8
  · have hclip : ¬ 8 ≤ px := Nat.not_le.mpr hleft
    cases p.maskShowSprites <;> cases p.maskShowSpritesLeft <;> simp [hleft, hclip]
  · have hclip : 8 ≤ px := Nat.not_lt.mp hleft
    cases p.maskShowSprites <;> cases p.maskShowSpritesLeft <;> simp [hleft, hclip]

/-- The sprite shown covers its column. -/
theorem covers_of_foreground {p : Ppu} {px : Nat} {sp : Sprite} (h : foreground p px = some sp) : covers px sp = true := by
  unfold foreground at h
  split at h
  · cases h
  · exact List.find?_some h

theorem pixelIndex_eq (p : Ppu) (px : Nat) : pixelIndex (p.bgAt px) (p.spriteAt px) px = Claims.pixelIndex p px := by
  rw [spriteAt_eq]
  unfold pixelIndex Claims.pixelIndex opaquePixel
  rw [toNat_bgAt]
  cases hsp : foreground p px with
  | none => by_cases h : background p px % 4 = 0 <;> simp [h]
  | some sp =>
    have hcovers := covers_of_foreground hsp
    simp only [covers, Bool.and_eq_true, decide_eq_true_eq] at hcovers
    have hpixel : 0x10 ||| (sp.pixel px).toNat = 16 + spriteNibble sp px := by
      rw [toNat_spritePixel, if_pos hcovers.1]
      exact mul_two_pow_or (x := 1) (k := 4) (Nat.mod_lt _ (by decide))
    dsimp only
    rw [hpixel]
    simp only [Bool.and_eq_true, decide_eq_true_eq]

theorem spriteZeroHit_iff (p : Ppu) (px : Nat) :
    spriteZeroHit (p.bgAt px) (p.spriteAt px) = true ↔
      background p px % 4 ≠ 0 ∧ ∃ sp, foreground p px = some sp ∧ sp.index = 0 := by
  rw [spriteAt_eq]
  unfold spriteZeroHit opaquePixel
  rw [toNat_bgAt]
  cases foreground p px <;> simp

/-- Settles O57. -/
theorem pixelComposited : Obligations.PixelComposited := by
  intro p px py hok hpx hpy
  have hbyte : p.palette.read (palIndex (0x3F00 + Claims.pixelIndex p px)) &&& 0x3F#8 =
      byte ((p.palette.read (palIndex (0x3F00 + Claims.pixelIndex p px))).toNat % 64) := by
    refine eq_byte_of_toNat ?_
    rw [BitVec.toNat_and]
    show _ &&& (2 ^ 6 - 1) = _
    rw [Nat.and_two_pow_sub_one_eq_mod]
    omega
  have hback : (p.renderPixel px py).back =
      p.back.setPixel px py (byte ((p.palette.read (palIndex (0x3F00 + Claims.pixelIndex p px))).toNat % 64)) := by
    rw [← hbyte, ← pixelIndex_eq]
    rfl
  rw [hback]
  refine ⟨?_, fun x y hxy => ?_, ?_⟩
  · rw [pixel_setPixel hok hpy, if_pos rfl]
  · rw [pixel_setPixel hok hpy, if_neg hxy]
  · show (p.sprite0Hit || spriteZeroHit (p.bgAt px) (p.spriteAt px)) = true ↔ _
    rw [Bool.or_eq_true, spriteZeroHit_iff]

end Sys2Proof.Machine
end

section
/-! Proofs about the bus and the PPU register port (20_memory.md R94 to R100, R114, R115, 47_ppu_registers_timing.md R380 to R392). -/

namespace Sys2Proof.Machine

open Claims hiding pixelIndex

/-! ### Open bus, the external port and the addresses outside the map (R94 to R99) -/

/-- The addresses of open-bus reads: PPU registers 0, 1, 3, 5 and 6, the DMA register and the unmapped window. -/
theorem memRead_openBus (s : State) (a : Word)
    (h : (0x2000 ≤ a.toNat ∧ a.toNat < 0x4000 ∧ a.toNat % 8 ∈ [0, 1, 3, 5, 6]) ∨ a.toNat = 0x4014 ∨
      (0x4020 ≤ a.toNat ∧ a.toNat < 0x6000)) :
    memRead a s = (s.openBus, s) := by
  rcases h with ⟨hlo, hhi, hreg⟩ | h | ⟨hlo, hhi⟩
  · rw [memRead_port a s hlo hhi]
    simp only [List.mem_cons, List.not_mem_nil, or_false] at hreg
    rcases hreg with h | h | h | h | h <;> rw [h] <;> rfl
  · unfold memRead
    dsimp only
    rw [if_neg (by omega), if_neg (by omega), if_pos h]
  · unfold memRead
    dsimp only
    rw [if_neg (by omega), if_neg (by omega), if_neg (by omega), if_neg (by omega), if_neg (by omega), if_pos hhi]

theorem externalPort : ExternalPort := by
  intro s a h
  refine ⟨⟨s.io.answer a, fun x rest hqueue => ?_, ?_⟩, fun v => ?_⟩
  · unfold IoPort.answer
    rw [hqueue]
  · unfold memRead
    dsimp only
    rw [if_neg (by omega), if_neg (by omega), if_neg (by omega), if_pos (by omega)]
    unfold ioRead
    rw [List.drop_one]
    rfl
  · unfold memWrite
    dsimp only
    rw [if_neg (by omega), if_neg (by omega), if_neg (by omega), if_pos (by omega)]
    rfl

theorem outsideTheMap : OutsideTheMap := by
  intro s a hlo hhi
  refine ⟨?_, fun v => ?_⟩
  · unfold memRead
    dsimp only
    rw [if_neg (by omega), if_neg (by omega), if_neg (by omega), if_neg (by omega), if_pos hhi]
    rfl
  · unfold memWrite
    dsimp only
    rw [if_neg (by omega), if_neg (by omega), if_neg (by omega), if_neg (by omega), if_pos hhi]
    rfl

/-! ### The status read (R384) -/

/-- The three flags in their places. -/
theorem statusFlags_toNat : ∀ vblank hit overflow : Bool,
    (bitByte vblank <<< 7 ||| bitByte hit <<< 6 ||| bitByte overflow <<< 5).toNat =
      2 ^ 5 * (4 * num vblank + 2 * num hit + num overflow) ∧ 4 * num vblank + 2 * num hit + num overflow < 8 := by decide

/-- The status byte as a sum of its fields. -/
theorem statusByte_eq (p : Ppu) (openBus : Byte) :
    p.statusByte openBus =
      byte (128 * num p.vblank + 64 * num p.sprite0Hit + 32 * num p.spriteOverflow + openBus.toNat % 32) := by
  have hlow : (openBus &&& 0x1F#8).toNat = openBus.toNat % 32 := Nat.and_two_pow_sub_one_eq_mod _ 5
  have hlt : openBus.toNat % 32 < 2 ^ 5 := Nat.mod_lt _ (by decide)
  obtain ⟨hflags, hbound⟩ := statusFlags_toNat p.vblank p.sprite0Hit p.spriteOverflow
  refine eq_byte_of_toNat ?_
  unfold Ppu.statusByte
  rw [BitVec.toNat_or, hlow, hflags, mul_two_pow_or hlt]
  omega

theorem toNat_openBus (s : State) :
    s.openBus.toNat = if s.bus.latchAge < s.openBusDecay then s.bus.latch.toNat else 0 := by
  unfold State.openBus
  split <;> rfl

theorem memRead_status (s : State) (a : Word) (hlo : 0x2000 ≤ a.toNat) (hhi : a.toNat < 0x4000) (hreg : a.toNat % 8 = 2) :
    memRead a s = statusRead s := by
  rw [memRead_port a s hlo hhi, hreg]
  rfl

/-- Settles O47. -/
theorem openBusReads : Obligations.OpenBusReads := by
  refine ⟨fun s a h => memRead_openBus s a h, fun s a ⟨hlo, hhi, hreg⟩ => ?_, externalPort, outsideTheMap⟩
  rw [memRead_status s a hlo hhi hreg]
  show (s.ppu.statusByte s.openBus).toNat % 32 = _
  rw [statusByte_eq, toNat_byte, toNat_openBus]
  split <;> omega

theorem coordinator_statusRead_eq (q : Coordinator) (vblank : Bool) :
    q.statusRead vblank =
      { q with nmiDelay := match q.nmiDelay with
                | .delayed n => if vblank then NmiDelay.canceled else .delayed n
                | d => d } := by
  obtain ⟨pending, delay, stall⟩ := q
  cases delay with
  | none => rfl
  | canceled => rfl
  | delayed n => cases vblank <;> rfl

/-- Settles O50. -/
theorem statusReadEffects : Obligations.StatusReadEffects := by
  intro s a hlo hhi hreg
  have hbyte := statusByte_eq s.ppu s.openBus
  rw [toNat_openBus] at hbyte
  dsimp only
  rw [memRead_status s a hlo hhi hreg, ← hbyte]
  unfold statusRead
  rw [coordinator_statusRead_eq]
  rfl

end Sys2Proof.Machine
end

section
/-! Proofs about the write side of the PPU register port and about the data port (47_ppu_registers_timing.md R381 to R392). -/

namespace Sys2Proof.Machine

open Claims hiding pixelIndex

/-! ### The two-write ports over numbers (R381, R388, R389) -/

/-- A mask of `n` ones from bit `k` on and of the low `m` bits. -/
theorem and_two_masks (x n : Nat) {k m : Nat} (h : m ≤ k) :
    x &&& (2 ^ k * (2 ^ n - 1) + (2 ^ m - 1)) = 2 ^ k * (x / 2 ^ k % 2 ^ n) ||| x % 2 ^ m := by
  have hlow : 2 ^ m - 1 < 2 ^ k := by
    have := Nat.pow_le_pow_right Nat.zero_lt_two h
    have := Nat.two_pow_pos m
    omega
  rw [← mul_two_pow_or hlow, Nat.and_or_distrib_left, and_mask_eq, Nat.and_two_pow_sub_one_eq_mod]

/-- A byte moved into a 15-bit register. -/
theorem toNat_setWidth_shift (b : Byte) {k : Nat} (h : b.toNat * 2 ^ k < 2 ^ 15) :
    (b.setWidth 15 <<< k).toNat = 2 ^ k * b.toNat := by
  have hb : b.toNat < 2 ^ 15 := by have := b.isLt; omega
  rw [BitVec.toNat_shiftLeft, BitVec.toNat_setWidth, Nat.mod_eq_of_lt hb, Nat.shiftLeft_eq, Nat.mod_eq_of_lt h, Nat.mul_comm]

theorem toNat_and_low (d : Byte) (n : Nat) (h : n ≤ 8) : (d &&& BitVec.ofNat 8 (2 ^ n - 1)).toNat = d.toNat % 2 ^ n := by
  have hpow : 2 ^ n ≤ 2 ^ 8 := Nat.pow_le_pow_right (by decide) h
  have := Nat.two_pow_pos n
  rw [BitVec.toNat_and, BitVec.toNat_ofNat, Nat.mod_eq_of_lt (by omega), Nat.and_two_pow_sub_one_eq_mod]

theorem toNat_shift_three (d : Byte) : (d >>> 3).toNat = d.toNat / 8 := by
  rw [BitVec.toNat_ushiftRight, Nat.shiftRight_eq_div_pow]

/-- A 15-bit register is the number that its value is. -/
theorem eq_ofNat_of_toNat {v : BitVec 15} {n : Nat} (h : v.toNat = n) : v = BitVec.ofNat 15 n := by
  rw [← h, BitVec.ofNat_toNat, BitVec.setWidth_eq]

theorem writeCtrl_t (t : BitVec 15) (d : Byte) :
    (t &&& 0x73FF#15) ||| ((d &&& 0x03#8).setWidth 15 <<< 10) =
      BitVec.ofNat 15 (t.toNat % 1024 + 1024 * (d.toNat % 4) + 4096 * (t.toNat / 4096)) := by
  have ht := t.isLt
  have hd : (d &&& 0x03#8).toNat = d.toNat % 2 ^ 2 := toNat_and_low d 2 (by decide)
  have hmask : t.toNat &&& 0x73FF = 2 ^ 12 * (t.toNat / 2 ^ 12 % 2 ^ 3) ||| t.toNat % 2 ^ 10 :=
    and_two_masks t.toNat 3 (k := 12) (m := 10) (by decide)
  refine eq_ofNat_of_toNat ?_
  rw [BitVec.toNat_or, BitVec.toNat_and, toNat_setWidth_shift _ (by omega), hd]
  show (t.toNat &&& 0x73FF) ||| _ = _
  rw [hmask, Nat.or_assoc, Nat.or_comm (t.toNat % 2 ^ 10), mul_two_pow_or (k := 10) (by omega), mul_two_pow_or (by omega)]
  omega

theorem writeScroll_first (t : BitVec 15) (d : Byte) :
    (t &&& 0x7FE0#15) ||| (d >>> 3).setWidth 15 = BitVec.ofNat 15 (t.toNat / 32 * 32 + d.toNat / 8) := by
  have ht := t.isLt
  have hd := d.isLt
  have hmask : t.toNat &&& 0x7FE0 = 2 ^ 5 * (t.toNat / 2 ^ 5 % 2 ^ 10) := and_mask_eq t.toNat 5 10
  refine eq_ofNat_of_toNat ?_
  rw [BitVec.toNat_or, BitVec.toNat_and, BitVec.toNat_setWidth, toNat_shift_three]
  show (t.toNat &&& 0x7FE0) ||| _ = _
  rw [hmask, Nat.mod_eq_of_lt (by omega : d.toNat / 8 < 2 ^ 15), mul_two_pow_or (by omega)]
  omega

theorem writeScroll_second (t : BitVec 15) (d : Byte) :
    (t &&& 0x0C1F#15) ||| ((d &&& 0x07#8).setWidth 15 <<< 12) ||| ((d >>> 3).setWidth 15 <<< 5) =
      BitVec.ofNat 15 (t.toNat % 32 + 32 * (d.toNat / 8) + 1024 * (t.toNat / 1024 % 4) + 4096 * (d.toNat % 8)) := by
  have ht := t.isLt
  have hd := d.isLt
  have hfine : (d &&& 0x07#8).toNat = d.toNat % 2 ^ 3 := toNat_and_low d 3 (by decide)
  have hmask : t.toNat &&& 0x0C1F = 2 ^ 10 * (t.toNat / 2 ^ 10 % 2 ^ 2) ||| t.toNat % 2 ^ 5 :=
    and_two_masks t.toNat 2 (k := 10) (m := 5) (by decide)
  have hrow := toNat_shift_three d
  refine eq_ofNat_of_toNat ?_
  rw [BitVec.toNat_or, BitVec.toNat_or, BitVec.toNat_and, toNat_setWidth_shift _ (by omega), toNat_setWidth_shift _ (by omega), hfine,
    hrow]
  show (t.toNat &&& 0x0C1F) ||| _ ||| _ = _
  rw [hmask]
  have horder : ∀ a b c e : Nat, (a ||| b) ||| c ||| e = c ||| (a ||| (e ||| b)) := fun a b c e => by ac_rfl
  rw [horder, mul_two_pow_or (k := 5) (by omega), mul_two_pow_or (k := 10) (by omega), mul_two_pow_or (by omega)]
  omega

theorem writeAddr_first (t : BitVec 15) (d : Byte) :
    (t &&& 0x00FF#15) ||| ((d &&& 0x3F#8).setWidth 15 <<< 8) = BitVec.ofNat 15 (t.toNat % 256 + 256 * (d.toNat % 64)) := by
  have hd : (d &&& 0x3F#8).toNat = d.toNat % 2 ^ 6 := toNat_and_low d 6 (by decide)
  have hmask : t.toNat &&& 0x00FF = t.toNat % 2 ^ 8 := Nat.and_two_pow_sub_one_eq_mod t.toNat 8
  refine eq_ofNat_of_toNat ?_
  rw [BitVec.toNat_or, BitVec.toNat_and, toNat_setWidth_shift _ (by omega), hd]
  show (t.toNat &&& 0x00FF) ||| _ = _
  rw [hmask, Nat.or_comm, mul_two_pow_or (by omega)]
  omega

theorem writeAddr_second (t : BitVec 15) (d : Byte) :
    (t &&& 0x7F00#15) ||| d.setWidth 15 = BitVec.ofNat 15 (t.toNat / 256 * 256 + d.toNat) := by
  have ht := t.isLt
  have hd := d.isLt
  have hmask : t.toNat &&& 0x7F00 = 2 ^ 8 * (t.toNat / 2 ^ 8 % 2 ^ 7) := and_mask_eq t.toNat 8 7
  refine eq_ofNat_of_toNat ?_
  rw [BitVec.toNat_or, BitVec.toNat_and, BitVec.toNat_setWidth]
  show (t.toNat &&& 0x7F00) ||| _ = _
  rw [hmask, Nat.mod_eq_of_lt (by omega : d.toNat < 2 ^ 15), mul_two_pow_or (by omega)]
  omega

/-! ### The registers of the port (R381 to R389, R547) -/

/-- The rising edge of the NMI enable moves the delay alone. -/
theorem nmiEnableRisingEdge_eq (q : Coordinator) (vblank : Bool) :
    q.nmiEnableRisingEdge vblank =
      { q with nmiDelay := if vblank then .delayed 14 else if q.nmiDelay = .canceled then .none else q.nmiDelay } := by
  obtain ⟨pending, delay, stall⟩ := q
  cases vblank <;> cases delay <;> rfl

theorem ppuCtrlWrite_eq (d : Byte) (s : State) :
    ppuCtrlWrite d s =
      (s.setPpu { s.ppu with
        ctrl := d
        t := BitVec.ofNat 15 (s.ppu.t.toNat % 1024 + 1024 * (d.toNat % 4) + 4096 * (s.ppu.t.toNat / 4096)) }).setIrq
        { s.irq with nmiDelay := edgeDelay s d } := by
  have hedge : (!s.ppu.ctrlNmiEnable && (s.ppu.writeCtrl d).ctrlNmiEnable) = decide (s.ppu.ctrl.toNat < 128 ∧ 128 ≤ d.toNat) := by
    unfold Ppu.ctrlNmiEnable Ppu.writeCtrl
    dsimp only
    rw [bit_seven, bit_seven, ← decide_not, ← Bool.decide_and]
    exact decide_eq_decide.mpr (by omega)
  unfold ppuCtrlWrite edgeDelay
  dsimp only
  rw [hedge, ← writeCtrl_t]
  by_cases h : s.ppu.ctrl.toNat < 128 ∧ 128 ≤ d.toNat
  · rw [if_pos (decide_eq_true h), if_pos h, nmiEnableRisingEdge_eq]
    rfl
  · rw [if_neg (by simpa using h), if_neg h]
    rfl

theorem portRegisters : PortRegisters := by
  intro s a d hlo hhi
  dsimp only
  rw [memWrite_port a d s hlo hhi, memRead_port a s hlo hhi]
  refine ⟨fun h => ?_, fun h => ?_, fun h => ?_, fun h => ?_, fun h => ?_, fun h => ?_⟩ <;> rw [h]
  · exact ppuCtrlWrite_eq d (s.drive d)
  · rfl
  · rfl
  · rfl
  · rw [← succ_eq]
    rfl
  · rfl

/-- Settles O51. -/
theorem scrollAndAddressPort : Obligations.ScrollAndAddressPort := by
  refine ⟨portRegisters, fun s a d hlo hhi => ?_⟩
  dsimp only
  rw [memWrite_port a d s hlo hhi]
  refine ⟨fun h hw => ?_, fun h hw => ?_, fun h hw => ?_, fun h hw => ?_⟩ <;> rw [h]
  · show (s.drive d).setPpu (s.ppu.writeScroll d) = _
    rw [← writeScroll_first, Ppu.writeScroll, hw]
    rfl
  · show (s.drive d).setPpu (s.ppu.writeScroll d) = _
    rw [← writeScroll_second, Ppu.writeScroll, hw]
    rfl
  · show (s.drive d).setPpu (s.ppu.writeAddr d) = _
    rw [← writeAddr_first, Ppu.writeAddr, hw]
    rfl
  · show (s.drive d).setPpu (s.ppu.writeAddr d) = _
    rw [← writeAddr_second, Ppu.writeAddr, hw]
    rfl

/-! ### The data port (R124, R125, R390 to R392) -/

theorem physicalTable_eq (m : Mirroring) {virt : Nat} (h : virt < 4) : physicalTable m virt = table m virt := by
  match virt, h with
  | 0, _ | 1, _ | 2, _ | 3, _ => cases m <;> rfl

theorem ppuIndexes : PpuIndexes := by
  refine ⟨fun m virt off hvirt hoff => ?_, fun i hi k => ?_⟩
  · have hindex : ∀ a, (a - 0x2000) % 0x1000 = 0x400 * virt + off → ntIndex m a = 0x400 * table m virt + off := by
      intro a ha
      unfold ntIndex
      dsimp only
      rw [ha, show (0x400 * virt + off) / 0x400 = virt by omega, show (0x400 * virt + off) % 0x400 = off by omega,
        physicalTable_eq m hvirt, Nat.mul_comm]
    exact ⟨hindex _ (by omega), fun _ => hindex _ (by omega)⟩
  · have hmod : (0x3F00 + 32 * k + i) % 0x20 = i := by omega
    unfold palIndex
    dsimp only
    rw [hmod]
    simp only [List.mem_cons, List.not_mem_nil, or_false]

theorem incrementV_eq (p : Ppu) :
    p.incrementV = { p with v := BitVec.ofNat 15 (p.v.toNat + if p.ctrlIncrement then 32 else 1) } := by
  unfold Ppu.incrementV
  refine congrArg (fun v => ({ p with v := v } : Ppu)) (BitVec.eq_of_toNat_eq ?_)
  rw [BitVec.toNat_add, BitVec.toNat_ofNat]
  split <;> rfl

theorem read_palette (p : Ppu) (cart : Cart) {a : Nat} (ha : 0x3F00 ≤ a) (ha' : a < 0x4000) :
    p.read cart a = p.palette.read (palIndex a) := by
  unfold Ppu.read
  rw [Nat.mod_eq_of_lt ha']
  dsimp only
  rw [if_neg (by omega), if_neg (by omega)]

theorem dataByte_eq (p : Ppu) (cart : Cart) :
    p.dataByte cart = if p.dataAddr < 0x3F00 then p.readBuffer else p.palette.read (palIndex p.dataAddr) := by
  have hlt : p.dataAddr < 0x4000 := Nat.mod_lt _ (by decide)
  unfold Ppu.dataByte
  split
  · rfl
  · exact read_palette p cart (by omega) hlt

/-- The byte a read puts in the buffer: from the mapper, or from the nametable, under the palette too. -/
theorem dataRead_eq (p : Ppu) (cart : Cart) :
    p.dataRead cart =
      { p with
        v := BitVec.ofNat 15 (p.v.toNat + if p.ctrlIncrement then 32 else 1)
        readBuffer :=
          if p.dataAddr < 0x2000 then cart.ppuRead p.dataAddr
          else p.vram.read (ntIndex cart.mirroring (if p.dataAddr < 0x3F00 then p.dataAddr else p.dataAddr - 0x1000)) } := by
  have hlt : p.dataAddr < 0x4000 := Nat.mod_lt _ (by decide)
  unfold Ppu.dataRead
  dsimp only
  rw [incrementV_eq]
  have hbuffer : (if p.dataAddr < 0x3F00 then p.read cart p.dataAddr else p.read cart (p.dataAddr - 0x1000)) =
      if p.dataAddr < 0x2000 then cart.ppuRead p.dataAddr
      else p.vram.read (ntIndex cart.mirroring (if p.dataAddr < 0x3F00 then p.dataAddr else p.dataAddr - 0x1000)) := by
    rcases (by omega : p.dataAddr < 0x2000 ∨ (0x2000 ≤ p.dataAddr ∧ p.dataAddr < 0x3F00) ∨ 0x3F00 ≤ p.dataAddr) with
      h | ⟨h, h'⟩ | h
    · rw [if_pos (by omega), if_pos h, read_pattern p cart h]
    · rw [if_pos h', if_neg (by omega), if_pos h', read_nametable p cart h h']
    · rw [if_neg (by omega), if_neg (by omega), if_neg (by omega), read_nametable p cart (by omega) (by omega)]
  rw [hbuffer]
  rfl

theorem ppuDataWrite_eq (d : Byte) (s : State) :
    let va := s.ppu.dataAddr
    ppuDataWrite d s =
      { s with
        ppu := { s.ppu with
          v := BitVec.ofNat 15 (s.ppu.v.toNat + if s.ppu.ctrlIncrement then 32 else 1)
          vram := if 0x2000 ≤ va ∧ va < 0x3F00 then s.ppu.vram.write (ntIndex s.cart.mirroring va) d else s.ppu.vram
          palette := if 0x3F00 ≤ va then s.ppu.palette.write (palIndex va) d else s.ppu.palette }
        cart := if va < 0x2000 then s.cart.ppuWrite va d else s.cart } := by
  have hlt : s.ppu.dataAddr < 0x4000 := Nat.mod_lt _ (by decide)
  have hmod : s.ppu.dataAddr % 0x4000 = s.ppu.dataAddr := Nat.mod_eq_of_lt hlt
  dsimp only
  unfold ppuDataWrite Ppu.write Cart.ppuBusWrite
  dsimp only
  rw [hmod, incrementV_eq]
  rcases (by omega : s.ppu.dataAddr < 0x2000 ∨ (0x2000 ≤ s.ppu.dataAddr ∧ s.ppu.dataAddr < 0x3F00) ∨ 0x3F00 ≤ s.ppu.dataAddr) with
    h | ⟨h, h'⟩ | h
  · have hvram : ¬ (0x2000 ≤ s.ppu.dataAddr ∧ s.ppu.dataAddr < 0x3F00) := by omega
    have hpalette : ¬ 0x3F00 ≤ s.ppu.dataAddr := by omega
    rw [if_pos h, if_pos h, if_neg hvram, if_neg hpalette]
    rfl
  · have hchr : ¬ s.ppu.dataAddr < 0x2000 := by omega
    have hpalette : ¬ 0x3F00 ≤ s.ppu.dataAddr := by omega
    rw [if_neg hchr, if_pos h', if_neg hchr, if_pos (And.intro h h'), if_neg hpalette]
    rfl
  · have hchr : ¬ s.ppu.dataAddr < 0x2000 := by omega
    have hlow : ¬ s.ppu.dataAddr < 0x3F00 := by omega
    have hvram : ¬ (0x2000 ≤ s.ppu.dataAddr ∧ s.ppu.dataAddr < 0x3F00) := by omega
    rw [if_neg hchr, if_neg hlow, if_neg hchr, if_neg hvram, if_pos h]
    rfl

/-- A write through the data port leaves its byte in the cell it reaches. -/
theorem ppuDataWrite_site {s : State} (hI : s.Inv) (d : Byte) : ∀ x ∈ dataPortSites s, (ppuDataWrite d s).site x = d := by
  intro x hx
  rw [ppuDataWrite_eq]
  unfold dataPortSites at hx
  dsimp only at hx
  split at hx
  · rename_i h
    split at hx
    · rename_i hram
      obtain rfl := List.mem_singleton.mp hx
      show (if s.ppu.dataAddr < 0x2000 then s.cart.ppuWrite s.ppu.dataAddr d else s.cart).chr.read _ = d
      rw [if_pos h, Cart.ppuWrite, if_pos hram]
      exact (Memory.read_write _ _ _ _ (Memory.wf_of_ok hI.cart.chr)).trans (if_pos rfl)
    · cases hx
  · rename_i h
    split at hx
    · rename_i h'
      obtain rfl := List.mem_singleton.mp hx
      show (if 0x2000 ≤ s.ppu.dataAddr ∧ s.ppu.dataAddr < 0x3F00 then _ else _ : Memory).read _ = d
      rw [if_pos ⟨Nat.not_lt.mp h, h'⟩, Memory.read_write _ _ _ _ (Memory.wf_of_ok hI.ppu.vram), if_pos rfl]
    · rename_i h'
      obtain rfl := List.mem_singleton.mp hx
      show (if 0x3F00 ≤ s.ppu.dataAddr then _ else _ : Memory).read _ = d
      rw [if_pos (Nat.not_lt.mp h'), Memory.read_write _ _ _ _ (Memory.wf_of_ok hI.ppu.palette), if_pos rfl]

/-- Settles O52. -/
theorem dataPortAccess : Obligations.DataPortAccess := by
  refine ⟨ppuIndexes, fun s a hlo hhi hreg => ?_⟩
  dsimp only
  refine ⟨fun b hb => ?_, fun d => ?_⟩
  · have hbyte : b = s.ppu.dataByte s.cart := hb.trans (dataByte_eq s.ppu s.cart).symm
    rw [memRead_port a s hlo hhi, hreg, hbyte]
    show ppuDataRead s = _
    unfold ppuDataRead
    rw [dataRead_eq]
    rfl
  · rw [memWrite_port a d s hlo hhi, hreg]
    show ppuDataWrite d (s.drive d) = _ ∧ SameStorageBut _ s (ppuDataWrite d (s.drive d)) ∧ _
    refine ⟨ppuDataWrite_eq d (s.drive d), fun x hx => ?_, fun hI => ppuDataWrite_site (hI.drive d) d⟩
    exact (ppuDataWrite_storage d (s.drive d) x hx).trans ((ReadFrame.drive s d).storage x)

end Sys2Proof.Machine
end

section
/-! Proofs about OAM DMA (20_memory.md R112). -/

namespace Sys2Proof.Machine

open Claims hiding pixelIndex

/-- The state after one byte of the copy. -/
def dmaStep (page : Byte) (i : Nat) (s : State) : State :=
  (memRead (word page (BitVec.ofNat 8 i)) s).2.setPpu
    ((memRead (word page (BitVec.ofNat 8 i)) s).2.ppu.oamPush (memRead (word page (BitVec.ofNat 8 i)) s).1)

theorem dmaCopy_cons (page : Byte) (i : Nat) (is : List Nat) (s : State) :
    dmaCopy page (i :: is) s = dmaCopy page is (dmaStep page i s) := rfl

/-! ### `oamAddr` and the stall -/

theorem dmaStep_oamAddr (page : Byte) (i : Nat) (s : State) : (dmaStep page i s).ppu.oamAddr = s.ppu.oamAddr + 1 := by
  obtain ⟨v, w, b, f, hp⟩ := (memRead_frame (word page (BitVec.ofNat 8 i)) s).ppu
  show (memRead (word page (BitVec.ofNat 8 i)) s).2.ppu.oamAddr + 1 = _
  rw [hp]

theorem dmaCopy_oamAddr (page : Byte) (is : List Nat) : ∀ s : State,
    (dmaCopy page is s).ppu.oamAddr = s.ppu.oamAddr + BitVec.ofNat 8 is.length := by
  induction is with
  | nil => exact fun s => (BitVec.add_zero _).symm
  | cons i is ih =>
    intro s
    rw [dmaCopy_cons, ih, dmaStep_oamAddr, List.length_cons, BitVec.add_assoc, Nat.add_comm is.length, BitVec.ofNat_add]
    rfl

theorem dmaCopy_stall (page : Byte) (is : List Nat) : ∀ s : State, (dmaCopy page is s).irq.stall = s.irq.stall := by
  induction is with
  | nil => exact fun _ => rfl
  | cons i is ih => exact fun s => (ih _).trans (memRead_frame (word page (BitVec.ofNat 8 i)) s).stall

/-! ### The bytes copied -/

/-- A read of RAM, battery RAM or ROM depends on those memories alone, and only drives the bus latch. -/
theorem memRead_of_same {s t : State} {a : Word} (ha : a.toNat < 0x2000 ∨ 0x6000 ≤ a.toNat) (hram : t.bus.ram = s.bus.ram)
    (hcart : t.cart = s.cart) : memRead a t = ((memRead a s).1, t.drive (memRead a s).1) := by
  rcases ha with h | h
  · rw [memRead_ram a t h, memRead_ram a s h, hram]
  · rw [memRead_cart a t h, memRead_cart a s h, hcart]

theorem toNat_dmaAddr (page : Byte) (i : Nat) : (word page (BitVec.ofNat 8 i)).toNat = 256 * page.toNat + i % 256 := by
  rw [toNat_word, BitVec.toNat_ofNat]

/-- One byte of a copy from a page of storage. -/
theorem dmaStep_eq {s t : State} {page : Byte} (hpage : page.toNat < 0x20 ∨ 0x60 ≤ page.toNat) (hram : t.bus.ram = s.bus.ram)
    (hcart : t.cart = s.cart) (i : Nat) :
    dmaStep page i t =
      (t.drive (memRead (word page (BitVec.ofNat 8 i)) s).1).setPpu
        (t.ppu.oamPush (memRead (word page (BitVec.ofNat 8 i)) s).1) := by
  have haddr := toNat_dmaAddr page i
  unfold dmaStep
  rw [memRead_of_same (by omega) hram hcart]
  rfl

/-- A copy of fewer than 256 bytes leaves the cells beyond its last alone. -/
theorem dmaCopy_oam_beyond (page : Byte) (is : List Nat) : ∀ (s : State) {k : Nat}, is.length ≤ k → k < 256 →
    (dmaCopy page is s).ppu.oam.read ((s.ppu.oamAddr.toNat + k) % 256) = s.ppu.oam.read ((s.ppu.oamAddr.toNat + k) % 256) := by
  induction is with
  | nil => exact fun _ _ _ _ => rfl
  | cons i is ih =>
    intro s k hlen hk
    rw [List.length_cons] at hlen
    have hnext : (dmaStep page i s).ppu.oamAddr.toNat = (s.ppu.oamAddr.toNat + 1) % 256 := by
      rw [dmaStep_oamAddr, BitVec.toNat_add]
      rfl
    have hcell : (s.ppu.oamAddr.toNat + k) % 256 = ((dmaStep page i s).ppu.oamAddr.toNat + (k - 1)) % 256 := by omega
    have hne : (s.ppu.oamAddr.toNat + k) % 256 ≠ s.ppu.oamAddr.toNat := by
      have := s.ppu.oamAddr.isLt
      omega
    rw [dmaCopy_cons, hcell, ih (dmaStep page i s) (by omega) (by omega), ← hcell]
    obtain ⟨v, w, b, f, hp⟩ := (memRead_frame (word page (BitVec.ofNat 8 i)) s).ppu
    show ((memRead (word page (BitVec.ofNat 8 i)) s).2.ppu.oam.write _ _).read _ = _
    rw [hp]
    exact Memory.read_write_other _ _ _ _ hne

/-- A copy from a page of storage puts its `j`-th byte in the `j`-th cell from `oamAddr` on. -/
theorem dmaCopy_oam_copied {s : State} {page : Byte} (hpage : page.toNat < 0x20 ∨ 0x60 ≤ page.toNat) (is : List Nat) :
    ∀ {t : State} {j i : Nat}, t.bus.ram = s.bus.ram → t.cart = s.cart → t.ppu.oam.wf = true → is.length ≤ 256 →
      is[j]? = some i →
      (dmaCopy page is t).ppu.oam.read ((t.ppu.oamAddr.toNat + j) % 256) = (memRead (word page (BitVec.ofNat 8 i)) s).1 := by
  induction is with
  | nil => exact fun _ _ _ _ h => nomatch h
  | cons i is ih =>
    intro t j i' hram hcart hwf hlen hj
    rw [List.length_cons] at hlen
    have hnext : (dmaStep page i t).ppu.oamAddr.toNat = (t.ppu.oamAddr.toNat + 1) % 256 := by
      rw [dmaStep_oamAddr, BitVec.toNat_add]
      rfl
    have hstep := dmaStep_eq hpage hram hcart i
    rw [dmaCopy_cons]
    cases j with
    | zero =>
      obtain rfl : i = i' := Option.some.inj hj
      have hlt := t.ppu.oamAddr.isLt
      have hcell : (t.ppu.oamAddr.toNat + 0) % 256 = ((dmaStep page i t).ppu.oamAddr.toNat + 255) % 256 := by omega
      rw [hcell, dmaCopy_oam_beyond page is _ (by omega) (by decide), ← hcell, hstep]
      show (t.ppu.oam.write t.ppu.oamAddr.toNat _).read _ = _
      rw [Memory.read_write _ _ _ _ hwf, if_pos (by omega)]
    | succ j =>
      have hcell : (t.ppu.oamAddr.toNat + (j + 1)) % 256 = ((dmaStep page i t).ppu.oamAddr.toNat + j) % 256 := by omega
      rw [hcell]
      refine ih ?_ ?_ ?_ (by omega) hj <;> rw [hstep]
      · exact hram
      · exact hcart
      · exact Memory.wf_write _ _ _ hwf

/-! ### The write to 0x4014 -/

theorem memWrite_dma (page : Byte) (s : State) : memWrite 0x4014 page s = oamDma page (s.drive page) := rfl

/-- Settles O48. -/
theorem oamDmaCopiesPage : Obligations.OamDmaCopiesPage := by
  intro s page
  refine ⟨?_, ?_, memWrite_storage 0x4014 page s, fun hI hpage i hi => ?_⟩
  · rw [memWrite_dma]
    show (dmaCopy page (List.range 256) (s.drive page)).ppu.oamAddr = _
    rw [dmaCopy_oamAddr, List.length_range]
    exact BitVec.add_zero s.ppu.oamAddr
  · rw [memWrite_dma]
    show (dmaCopy page (List.range 256) (s.drive page)).irq.stall +
      (513 + (dmaCopy page (List.range 256) (s.drive page)).cycles % 2) = _
    rw [dmaCopy_stall, (dmaCopy_frame page (List.range 256) (s.drive page)).cycles]
    show s.irq.stall + (513 + s.cycles % 2) = _
    split <;> omega
  · have haddr : word page (BitVec.ofNat 8 i) = BitVec.ofNat 16 (256 * page.toNat + i) := by
      have := page.isLt
      refine BitVec.eq_of_toNat_eq ?_
      rw [toNat_dmaAddr, BitVec.toNat_ofNat]
      omega
    rw [← haddr, memWrite_dma]
    exact dmaCopy_oam_copied (s := s) hpage (List.range 256) (t := s.drive page) rfl rfl (Memory.wf_of_ok hI.ppu.oam)
      (Nat.le_of_eq List.length_range) (List.getElem?_range hi)

end Sys2Proof.Machine
end
